-- ==== Sys2Proof/Word.lean ====
section
/-! DEFINITION. The plainest types of the model: bytes of the plant line, bay and node numbers. -/

namespace Sys2Proof

/-- One byte of the plant line. -/
abbrev Byte := BitVec 8

/-- A frame as received: the bytes from its frame start up to the next frame start, line reset or end of
connection (R158). A frame that was cut short has fewer bytes than its form needs. -/
abbrev RawFrame := List Byte

/-- A weighing bay, 0 to 7 (R22). -/
abbrev BayIx := Fin 8

/-- A master: the node of address `n + 1`, so that the twelve values are the addresses 1 to 12 (R166). -/
abbrev Node := Fin 12

/-- A foam line: value 0 is foam line 1 (node 9), value 1 is foam line 2 (node 10) (R114). -/
abbrev FoamLine := Fin 2

end Sys2Proof
end

