-- ==== Sys2Proof/Syntax.lean ====
section
/-! DEFINITION. The commands of the GX-612, one constructor per row of spec/opcode_table.json. -/

namespace Sys2Proof

/-- What the converter of a channel delivers in one sample (R45): a raw code, or a converter-fault indication. -/
inductive SampleIn where
  | code (raw : Nat)
  | converterFault
deriving DecidableEq, Repr

/-- A command. A request is the taking of one request from `node` with request tag `tag` (R151), its other operands
the argument or payload fields of R163 as raw numbers. A frame command carries the bytes received. A command named
after a deadline carries `arrival`, the moment in milliseconds at which the passing arrives. -/
inductive Instr where
  | replyLimit (node : Node) (tag bytes : Nat)
  | linkStats (node : Node) (tag addr : Nat)
  | feedOpen (node : Node) (tag : Nat)
  | feedProgress (node : Node) (tag flow : Nat)
  | feedClose (node : Node) (tag flow : Nat)
  | feedCancel (node : Node) (tag : Nat)
  | feedOutcome (node : Node) (tag : Nat)
  | degasEnd (node : Node) (tag outcome : Nat)
  | foamOpen (node : Node) (tag cls : Nat)
  | foamResume (node : Node) (tag : Nat)
  | foamClose (node : Node) (tag : Nat)
  | batchQuery (node : Node) (tag line slot : Nat)
  | vesselQuery (node : Node) (tag bay : Nat)
  | alarmRead (node : Node) (tag group : Nat)
  | permit (node : Node) (tag value : Nat)
  | vesselRetire (node : Node) (tag bay : Nat)
  | vesselClearFault (node : Node) (tag bay : Nat)
  | linkOptions (node : Node) (tag options : Nat)
  | announce (node : Node) (tag unit category refr charge foam : Nat)
  | degasBegin (node : Node) (tag unit cls : Nat)
  | cabinetAdmit (node : Node) (tag unit cls : Nat)
  | unitQuery (node : Node) (tag unit : Nat)
  | unitRelease (node : Node) (tag unit : Nat)
  | vesselMount (node : Node) (tag bay vessel cls capacity tare : Nat)
  | calibrate (node : Node) (tag bay zeroAt scale : Nat)
  | calibrateZeroCapture (node : Node) (tag bay scale : Nat)
  | setParam (node : Node) (tag id value : Nat)
  | setExpect (node : Node) (tag category cls grams : Nat)
  | setDigest (node : Node) (tag : Nat) (items : List (Nat × Nat))
  | requestFrameReceived (raw : RawFrame)
  | frameDiscarded (raw : RawFrame)
  | fill (raw : RawFrame)
  | turn (raw : RawFrame)
  | endFrame (raw : RawFrame)
  | select (raw : RawFrame)
  | selectionComplete
  | slotReplyDelivered
  | reportSent
  | arbitration (contenders : List (BitVec 4))
  | reselection
  | selectAck (raw : RawFrame)
  | reselectionTimeout (arrival : Nat)
  | turnTimeout (arrival : Nat)
  | lineReset (receiving : Bool)
  | lineResetRelease
  | lineIdleTimeout (arrival : Nat)
  | sample (bay : BayIx) (input : SampleIn)
  | silenceDeadline (bay : BayIx) (arrival : Nat)
  | settleDeadline (bay : BayIx) (arrival : Nat)
  | holdDeadline (bay : BayIx) (arrival : Nat)
  | waitDeadline (node : Node) (arrival : Nat)
  | switchClosed (bay : BayIx)
  | closeWatchExpiry (bay : BayIx) (arrival : Nat)
  | storeWriteEnd
  | estopAssert
  | estopRelease
  | gasNotHealthy
  | gasHealthy
  | resetAssert
  | resetRelease
  | powerOn
  | switchOpen (bay : BayIx)
  | replyBurstEndSent
deriving DecidableEq, Repr

end Sys2Proof
end

