-- ==== Sys2Proof/Decode.lean ====
section
/-! DEFINITION. The command that a word spells by the bits of spec/opcode_table.json. No row of the table gives bits, so
no word spells a command (log 25). Frames of the plant line are bytes, not words: Machine/Frames.lean reads them. -/

namespace Sys2Proof

/-- No row of the table has bits: `nbits` is zero for every row and no word spells a command (log 25). -/
def decodeTableWord (_nbits _w : Nat) : Option Instr := none

end Sys2Proof
end

