-- ==== Sys2Proof/Config.lean ====
section
/-! DEFINITION. What the spec leaves open: the free bytes of digest items, and the levels of the inputs and the
content of the Definition Store at the very first power-on. -/

namespace Sys2Proof.Config

/-- DESIGN CHOICE (log 12): the bytes of a digest item value that R164 does not name. No body: nothing about them
can be proved. The argument is `State.freeCount`, so each composed item draws fresh bytes. Safe. -/
opaque freeDigestByte : Nat → Byte

/-- DESIGN CHOICE (log 4): the level the E-stop input reads at the first power-on is CLEAR (R136). Unsafe. -/
def estopAtReset : Bool := false

/-- DESIGN CHOICE (log 4): the level the gas-detection input reads at the first power-on is HEALTHY (R136). Unsafe. -/
def healthyAtReset : Bool := true

/-- DESIGN CHOICE (log 4): the closed-position switches read closed at the first power-on, when every valve is
commanded closed (R64). Unsafe. -/
def switchAtReset : Bool := true

end Sys2Proof.Config
end

