-- ==== Sys2Proof/Machine/State.lean ====
section
/-! DEFINITION. The state of the GX-612, block by block (00_scope.md, "Blocks of the GX-612"), as plain data, and the
state right after reset. -/

namespace Sys2Proof.Machine

/-! ## Names of the spec -/

/-- Gas classes (00_scope.md, Gas classes). -/
inductive GasClass where
  | cl | fl | hc | mx
deriving DecidableEq, Repr

/-- Cabinet categories A to E (R1). -/
inductive Category where
  | a | b | c | d | e
deriving DecidableEq, Repr

/-- The states of a unit (R1). -/
inductive UnitState where
  | announced | degassing | degassed | inBatch | closed
deriving DecidableEq, Repr

/-- The degas outcome held by a unit record (R1). -/
inductive DegasOutcome where
  | complete | noCharge
deriving DecidableEq, Repr

/-- The outcome a DEGAS_END applied, as its reply body reports it (R16). -/
inductive DegasApplied where
  | complete | noCharge | aborted
deriving DecidableEq, Repr

/-- The states of a bay (R24). -/
inductive BayState where
  | absent | hold | settling | ready | feeding | closing | full | fault | sealed
deriving DecidableEq, Repr

/-- Channel states (R44). -/
inductive ChannelState where
  | noSignal | ok | lost
deriving DecidableEq, Repr

/-- Purposes of a window (R44). -/
inductive WindowPurpose where
  | baseline | feedEnd | zeroCapture
deriving DecidableEq, Repr

/-- Phases of a window (R44). -/
inductive WindowPhase where
  | wait | average
deriving DecidableEq, Repr

/-- States of a feed (R63). -/
inductive FeedState where
  | feeding | closing
deriving DecidableEq, Repr

/-- End causes (R73). -/
inductive EndCause where
  | closed | full | abandoned | interlock | estop
deriving DecidableEq, Repr

/-- States of a batch that a slot holds; a slot in NONE holds no record (R115, R117). -/
inductive BatchState where
  | waitingFeed | opened | stalled | closing | settled
deriving DecidableEq, Repr

/-- Presence of a node (R168). -/
inductive Presence where
  | unknown | present | unreachable
deriving DecidableEq, Repr

/-- The request kinds of R163. -/
inductive ReqKind where
  | replyLimit | linkStats | feedOpen | feedProgress | feedClose | feedCancel | feedOutcome | degasEnd | foamOpen
  | foamResume | foamClose | batchQuery | vesselQuery | alarmRead | permit | vesselRetire | vesselClearFault
  | linkOptions | announce | degasBegin | cabinetAdmit | unitQuery | unitRelease | vesselMount | calibrate | setParam
  | setExpect | setDigest
deriving DecidableEq, Repr

/-- The line-control kinds of R162. -/
inductive CtrlKind where
  | select | selectAck | turn | endFrame | fill | report | reply
deriving DecidableEq, Repr

/-- The status codes of R173, in code order. -/
inductive Status where
  | ok | deferred | withdrawn | notPermitted | badArgument | noUnit | duplicate | tableFull | wrongState | owner
  | noVessel | waitExpired | slotBusy | feedActive | noFeed | feedEnded | classMismatch | batchFull | segmentLimit
  | permitOff | estop | storeBusy | clamped | bayBusy
deriving DecidableEq, Repr

/-- The alarm kinds, in the order of the table of R176. -/
inductive AlarmKind where
  | vesselFull | channelLost | channelRestored | unstableReading | negativeGain | valveFault
  | feedAbandoned | waitExpired | feedInterlock
  | recoveryShort | classMismatch | foamMismatch | yieldLow | yieldHigh | tableFull
  | estopOn | permitDropped | powerOn | nodeUnreachable | lineReset | storeLost
deriving DecidableEq, Repr

/-- The line states of R147. -/
inductive LineState where
  | free | arbitrating | selecting | connected | resetting
deriving DecidableEq, Repr

/-- Kinds of a connection (R147). -/
inductive ConnKind where
  | master | reselection
deriving DecidableEq, Repr

/-- Which side of a connection holds the turn (R147). -/
inductive Side where
  | partner | gx
deriving DecidableEq, Repr

/-! ## Unit Table -/

/-- The marks of a unit, a set as six flags (R3). -/
structure UnitMarks where
  classMismatch : Bool := false
  short : Bool := false
  empty : Bool := false
  negGain : Bool := false
  unstable : Bool := false
  foamMismatch : Bool := false
deriving DecidableEq, Repr

/-- A unit record (R1); `none` is an absent field. -/
structure UnitRec where
  tag : Nat
  state : UnitState
  category : Category
  declRefr : Option GasClass
  declCharge : Option Nat
  declFoam : Option GasClass
  identRefr : Option GasClass
  station : Option Node
  recovered : Nat
  feedCount : Nat
  estimated : Bool
  abortCount : Nat
  outcome : Option DegasOutcome
  ratio : Option Nat
  marks : UnitMarks
  identFoam : Option GasClass
  batch : Option (FoamLine × Nat)
  foamWeight : Option Nat
  foamShare : Option Nat
deriving DecidableEq, Repr

/-! ## Vessel Bank and Definition Store -/

/-- The vessel defined on a bay (R22). -/
structure Vessel where
  id : Nat
  cls : GasClass
  capacity : Nat
  tare : Nat
deriving DecidableEq, Repr

/-- What last wrote a bay's net: a mount or the power-on restore, a settled reading, or an estimated booking. The
weighed flag of R22 is `settled`; R26 and R61 also tell the other two apart. DEDUCED (log 7). -/
inductive NetSource where
  | initial | settled | estimated
deriving DecidableEq, Repr

/-- A bay record (R22). The feed reference is the record of the same bay in `State.feeds`. -/
structure Bay where
  state : BayState
  vessel : Option Vessel
  net : Nat
  source : NetSource
  book : Nat
  unreconciled : Int
  closeWatch : Option Nat
  zero : Nat
  scale : Nat
deriving DecidableEq, Repr

/-- The three contents of a store record (R38). -/
inductive StoreContents where
  | cleared
  | calibration (zeroAt scale : Nat)
  | definition (vessel : Vessel) (zeroAt scale : Nat)
deriving DecidableEq, Repr

/-- A store record: its contents and whether its check value agrees with them (R38, R40; log 6). -/
structure StoreRec where
  contents : StoreContents
  good : Bool
deriving DecidableEq, Repr

/-- What the Definition Store is doing (R39): nothing, a zero capture engaged with the scale sent (R35), or a write of
`contents` that ends by `latest`. -/
inductive StoreOp where
  | idle
  | capture (bay : BayIx) (scale : Nat)
  | writing (bay : BayIx) (contents : StoreContents) (latest : Nat)
deriving DecidableEq, Repr

/-- The Definition Store (R38, R39). -/
structure Store where
  recs : Vector StoreRec 8
  op : StoreOp
deriving DecidableEq, Repr

/-! ## Weigh Unit -/

/-- A settle, averaging or zero capture window (R44, R53). The band is absent until a set with a stability check has
started. -/
structure Window where
  purpose : WindowPurpose
  phase : WindowPhase
  settleDeadline : Option Nat
  setNo : Nat
  band : Option Nat
  samples : List Nat
deriving DecidableEq, Repr

/-- A channel record (R44). -/
structure Channel where
  state : ChannelState
  validRun : Nat
  silence : Option Nat
  lastGross : Nat
  under : Bool
  window : Option Window
deriving DecidableEq, Repr

/-! ## Feed Controller and Wait List -/

/-- The purpose of a feed (R63); the segment index counts from 1. -/
inductive FeedPurpose where
  | unit (tag : Nat)
  | batch (line : FoamLine) (number segment : Nat)
deriving DecidableEq, Repr

/-- A feed record (R63); its bay is its place in `State.feeds`. -/
structure Feed where
  owner : Node
  purpose : FeedPurpose
  cls : GasClass
  state : FeedState
  startNet : Nat
  estimate : Nat
  weightKept : Bool
  holdDeadline : Option Nat
  endCause : Option EndCause
  booked : Bool
deriving DecidableEq, Repr

/-- A feed-outcome field (R65). -/
structure FeedOutcome where
  bay : BayIx
  endCause : Option EndCause
  settled : Bool
  gain : Option Nat
  estimated : Bool
deriving DecidableEq, Repr

/-- What a waiting request will book to once granted (R86). -/
inductive WaitPurpose where
  | unit (tag : Nat)
  | batch (line : FoamLine) (number : Nat)
deriving DecidableEq, Repr

/-- A wait entry (R86). -/
structure WaitEntry where
  node : Node
  tag : Nat
  kind : ReqKind
  cls : GasClass
  purpose : WaitPurpose
  deadline : Nat
deriving DecidableEq, Repr

/-! ## Batch Table -/

/-- A cabinet of a batch (R115). -/
structure Cabinet where
  tag : Nat
  weight : Nat
  share : Option Nat
deriving DecidableEq, Repr

/-- A segment of a batch (R116). -/
structure Segment where
  bay : BayIx
  endCause : Option EndCause
  settled : Bool
  gain : Option Nat
  estimated : Bool
deriving DecidableEq, Repr

/-- The marks of a batch (R107, R112). -/
structure BatchMarks where
  estimated : Bool := false
  unstable : Bool := false
  yieldLow : Bool := false
  yieldHigh : Bool := false
deriving DecidableEq, Repr

/-- A batch record (R115). -/
structure Batch where
  line : FoamLine
  number : Nat
  cls : GasClass
  state : BatchState
  cabinets : List Cabinet
  segments : List Segment
  total : Option Nat
  unassigned : Option Nat
  yield : Option Nat
  marks : BatchMarks
deriving DecidableEq, Repr

/-- The two slots and the last batch number of a foam line (R114); `none` is a slot in NONE. -/
structure LineRec where
  current : Option Batch
  previous : Option Batch
  lastNumber : Nat
deriving DecidableEq, Repr

/-- The Batch Table: the slots of both lines and the foam expectation table, category by category with the classes CL,
FL, HC, MX in each (R133). -/
structure BatchTable where
  lines : Vector LineRec 2
  expect : Vector Nat 20
deriving DecidableEq, Repr

/-! ## Interlock Unit, Alarm Set, Parameter Set -/

/-- The items of R136, `true` for ASSERTED, HEALTHY and ON. The first two follow their inputs at once and so are also
the levels of the inputs. The permit is derived. -/
structure Interlock where
  estop : Bool
  healthy : Bool
  flag : Bool
deriving DecidableEq, Repr

/-- Count, latest subject and latest value of an alarm kind (R176). -/
structure Alarm where
  count : Nat := 0
  subject : Option Nat := none
  value : Int := 0
deriving DecidableEq, Repr

/-- The Alarm Set (R176): the kinds in table order and the flags of groups A to D. -/
structure AlarmSet where
  recs : Vector Alarm 21
  groups : Vector Bool 4
deriving DecidableEq, Repr

/-- The nine parameters, in the order of their ids (R178); times in seconds. -/
structure Params where
  holdTime : Nat := 20
  settleTime : Nat := 3
  stabilityBand : Nat := 20
  grantReserve : Nat := 2000
  waitLimit : Nat := 120
  minRecovery : Nat := 850
  yieldLow : Nat := 700
  yieldHigh : Nat := 1300
  emptyThreshold : Nat := 30
deriving DecidableEq, Repr

/-! ## Replies and nodes -/

/-- The bodies of R165. A record body holds the record it shows. -/
inductive Body where
  | none
  | grant (bay : BayIx) (vessel headroom : Nat)
  | progress (headroom10 : Nat) (estimateMode : Bool)
  | outcome (o : FeedOutcome)
  | degas (applied : DegasApplied) (recovered feedCount : Nat) (ratio : Option Nat) (marks : UnitMarks)
  | admitted (weight position : Nat)
  | completion (total : Nat) (yield : Option Nat) (cabinets : Nat)
  | interlock (permit flag healthy estop : Bool)
  | applied (value : Nat)
  | linkStats (node : Node) (counter : Nat) (saturated : Bool)
  | alarmGroup (group : Fin 4) (rows : List (AlarmKind × Alarm))
  | unit (u : UnitRec)
  | vessel (bay : BayIx) (r : Bay) (feed : Option (Node × Option EndCause)) (switch : Bool) (chan : ChannelState)
      (validRun : Nat) (under : Bool)
  | batch (line : FoamLine) (slot : Nat) (lastNumber : Nat) (record : Option Batch)
deriving DecidableEq, Repr

/-- The reply a DELIVERABLE or HELD slot holds (R166, R169). -/
structure SlotReply where
  tag : Nat
  kind : ReqKind
  status : Status
  body : Body
deriving DecidableEq, Repr

/-- A pending slot (R169). -/
inductive Slot where
  | empty
  | deferred (tag : Nat) (kind : ReqKind)
  | deliverable (r : SlotReply)
  | held (r : SlotReply)
deriving DecidableEq, Repr

/-- A node record (R166). Address and role are its place. -/
structure NodeRec where
  presence : Presence := .unknown
  slot : Slot := .empty
  errCount : Nat := 0
  saturated : Bool := false
  replyLimit : Nat := 64
  burstHalt : Bool := true
  fixedLength : Bool := false
  digest : List (Nat × Nat) := []
  cursor : Nat := 0
  outcome : Option FeedOutcome := none
deriving DecidableEq, Repr

/-- The answer to a taken request: who sent it, its tag and kind, the status and the body (R151, R173). -/
structure Answer where
  node : Node
  tag : Nat
  kind : ReqKind
  status : Status
  body : Body
deriving DecidableEq, Repr

/-! ## Plant Line Interface -/

/-- A kept request frame of the burst buffer (R147, R162). -/
structure ReqFrame where
  kind : ReqKind
  tag : Nat
  arg : Nat
  payload : List Byte
deriving DecidableEq, Repr

/-- A frame the PLI sends (R162, R164), to the partner of the connection or the node being selected. -/
inductive OutFrame where
  | select
  | selectAck
  | turn
  | endFrame
  | report (bits : BitVec 16)
  | slotReply (tag : Nat) (payload : List Byte)
  | reply (tag : Nat) (payload : List Byte)
deriving DecidableEq, Repr

/-- The current connection (R147). The turn deadline is absent while the GX-612 holds the turn (R156). -/
structure Conn where
  kind : ConnKind
  partner : Node
  turn : Side
  bursts : Nat
  deadline : Option Nat
deriving DecidableEq, Repr

/-- The Plant Line Interface (R147), with the items that R148, R149, R152, R155 and R157 imply: the winner of the
arbitration, the node whose SELECT is being acknowledged, the deadline of a reselection, the frames being sent, and the
PLI's own hold of the claim pair. -/
structure Pli where
  line : LineState := .free
  winner : Option Nat := none
  acking : Option Node := none
  conn : Option Conn := none
  buffer : List ReqFrame := []
  halted : Bool := false
  errors : BitVec 16 := 0
  delivery : List Node := []
  selectDeadline : Option Nat := none
  sending : List OutFrame := []
  claimHold : Option Nat := none
deriving DecidableEq, Repr

/-! ## The state -/

/-- The GX-612. -/
structure State where
  now : Nat
  pending : List Instr
  inReset : Bool
  switches : Vector Bool 8
  pli : Pli
  nodes : Vector NodeRec 12
  units : List UnitRec
  bays : Vector Bay 8
  store : Store
  channels : Vector Channel 8
  feeds : Vector (Option Feed) 8
  valves : Vector Bool 8
  waits : List WaitEntry
  batches : BatchTable
  interlock : Interlock
  alarms : AlarmSet
  params : Params
  lastReply : Option Answer
  freeCount : Nat
deriving DecidableEq, Repr

/-- No command stops the block with a fault: every rule of the spec gives an effect, a status code or no change. The
type has no constructor, so no step can raise one; nothing is unsafe in it. -/
inductive Fault
deriving DecidableEq, Repr

/-- The refusals of the model. -/
inductive Refusal where
  /-- Raised by `exec` for a command that has no meaning yet, under the command's mnemonic. Safe: the model stops. No
  arm of `exec` raises it. -/
  | notModelled (mnemonic : String)
deriving DecidableEq, Repr

/-! ## Right after reset -/

/-- A channel record at power-on (R44). -/
def Channel.initial : Channel :=
  { state := .noSignal, validRun := 0, silence := none, lastGross := 0, under := false, window := none }

/-- A bay with no vessel and the default calibration (R40, last two rows). -/
def Bay.initial : Bay :=
  { state := .absent, vessel := none, net := 0, source := .initial, book := 0, unreconciled := 0, closeWatch := none,
    zero := 0, scale := 1 }

/-- The default figures of the foam expectation table (R133). -/
def defaultExpect : Vector Nat 20 :=
  #v[250, 200, 120, 200,
     350, 300, 170, 300,
     450, 400, 220, 400,
     600, 520, 290, 520,
     800, 700, 390, 700]

/-- The Batch Table at power-on (R114, R133). -/
def BatchTable.initial : BatchTable :=
  { lines := Vector.replicate 2 { current := none, previous := none, lastNumber := 0 }, expect := defaultExpect }

/-- The Alarm Set cleared (R176). -/
def AlarmSet.cleared : AlarmSet :=
  { recs := Vector.replicate 21 { }, groups := Vector.replicate 4 false }

/-- The Alarm Set right after a power-on with every store record good and the E-stop clear: cleared, then POWER_ON
counted once, which sets the flag of group D (R176). -/
def AlarmSet.atReset : AlarmSet :=
  { recs := AlarmSet.cleared.recs.set 17 { count := 1 }, groups := AlarmSet.cleared.groups.set 3 true }

/-- The machine right after reset. The Definition Store's content and check and the levels of the inputs are the model's
choices (log 4, log 5); everything else is the power-on value the spec states. -/
def State.reset : State :=
  { now := 0
    pending := []
    inReset := false
    switches := Vector.replicate 8 Config.switchAtReset
    pli := { }
    nodes := Vector.replicate 12 { }
    units := []
    bays := Vector.replicate 8 Bay.initial
    store := { recs := Vector.replicate 8 { contents := .cleared, good := true }, op := .idle }
    channels := Vector.replicate 8 Channel.initial
    feeds := Vector.replicate 8 none
    valves := Vector.replicate 8 false
    waits := []
    batches := BatchTable.initial
    interlock := { estop := Config.estopAtReset, healthy := Config.healthyAtReset, flag := false }
    alarms := AlarmSet.atReset
    params := { }
    lastReply := none
    freeCount := 0 }

end Sys2Proof.Machine
end

