-- ==== Sys2Proof/Machine/Operands.lean ====
section
/-! DEFINITION. The operands of commands: addresses, roles and permissions, codes, ranges, and the reading and writing
of big-endian fields. -/

namespace Sys2Proof.Machine

/-! ## Numbered things -/

/-- All bays, in ascending number. -/
def allBays : List BayIx := [0, 1, 2, 3, 4, 5, 6, 7]

/-- All nodes, in ascending address. -/
def allNodes : List Node := [0, 1, 2, 3, 4, 5, 6, 7, 8, 9, 10, 11]

/-- The bay an argument names, absent outside 0 to 7. -/
def bayOfArg (n : Nat) : Option BayIx := if h : n < 8 then some ⟨n, h⟩ else none

/-- The address of a node, 1 to 12 (R166). -/
def nodeAddr (n : Node) : Nat := n.val + 1

/-- The node of an address, absent outside 1 to 12. -/
def nodeOfAddr (a : Nat) : Option Node := if h : 1 ≤ a ∧ a ≤ 12 then some ⟨a - 1, by omega⟩ else none

/-- The foam line number, 1 or 2. -/
def lineNumber (l : FoamLine) : Nat := l.val + 1

/-- The foam line an argument names, absent outside 1 and 2. -/
def lineOfArg (n : Nat) : Option FoamLine := if h : 1 ≤ n ∧ n ≤ 2 then some ⟨n - 1, by omega⟩ else none

/-- The node of a foam line: 9 for line 1, 10 for line 2 (R114). -/
def nodeOfLine (l : FoamLine) : Node := ⟨8 + l.val, by omega⟩

/-- The foam line of a node, absent for other roles (R114). -/
def lineOfNode (n : Node) : Option FoamLine :=
  if n.val = 8 then some 0 else if n.val = 9 then some 1 else none

/-! ## Roles and permissions (R166, R167) -/

/-- The three roles (R166). -/
inductive Role where
  | station | foamLine | supervisory
deriving DecidableEq, Repr

/-- The role is fixed by the address: 1 to 8, 9 and 10, 11 and 12 (R166). -/
def roleOf (n : Node) : Role :=
  if n.val < 8 then .station else if n.val < 10 then .foamLine else .supervisory

/-- The permission table of R167. -/
def permitted (k : ReqKind) (r : Role) : Bool :=
  match k with
  | .feedOpen | .feedClose | .feedCancel | .degasBegin | .degasEnd => r == .station
  | .feedProgress | .feedOutcome => r == .station || r == .foamLine
  | .foamOpen | .foamResume | .foamClose | .cabinetAdmit => r == .foamLine
  | .unitQuery | .vesselQuery | .batchQuery | .replyLimit | .linkOptions | .linkStats | .setDigest => true
  | .announce | .unitRelease | .vesselMount | .vesselRetire | .vesselClearFault | .calibrate | .permit | .alarmRead
  | .setParam | .setExpect => r == .supervisory

/-! ## Gas classes and categories -/

/-- The class a code names: 1 CL, 2 FL, 3 HC, 4 MX (R163). -/
def classOfCode (n : Nat) : Option GasClass :=
  match n with
  | 1 => some .cl
  | 2 => some .fl
  | 3 => some .hc
  | 4 => some .mx
  | _ => none

/-- The code of a class (R163). -/
def classCode (g : GasClass) : Nat :=
  match g with
  | .cl => 1
  | .fl => 2
  | .hc => 3
  | .mx => 4

/-- The category a code names: 1 to 5 for A to E (R163). -/
def categoryOfCode (n : Nat) : Option Category :=
  match n with
  | 1 => some .a
  | 2 => some .b
  | 3 => some .c
  | 4 => some .d
  | 5 => some .e
  | _ => none

/-- The code of a category (R163). -/
def categoryCode (c : Category) : Nat :=
  match c with
  | .a => 1
  | .b => 2
  | .c => 3
  | .d => 4
  | .e => 5

/-- Fill density of a vessel class, grams per decilitre (R23). -/
def fillDensity (v : GasClass) : Nat :=
  match v with
  | .cl => 115
  | .fl => 100
  | .hc => 42
  | .mx => 42

/-- A vessel class accepts its own gas class, and MX accepts every class (R23). -/
def accepts (vessel gas : GasClass) : Bool := vessel == gas || vessel == .mx

/-- HC and MX gas needs the flammable permit (00_scope.md, Gas classes). -/
def flammable (g : GasClass) : Bool := g == .hc || g == .mx

/-- The figure of the expectation table for a category and a class stands at this place (R133). -/
def expectIx (c : Category) (g : GasClass) : Fin 20 :=
  let row : Fin 5 := match c with
    | .a => 0
    | .b => 1
    | .c => 2
    | .d => 3
    | .e => 4
  let col : Fin 4 := match g with
    | .cl => 0
    | .fl => 1
    | .hc => 2
    | .mx => 3
  ⟨4 * row.val + col.val, by omega⟩

/-! ## Codes of states and statuses -/

/-- Bay state codes (R24). -/
def bayStateCode (s : BayState) : Nat :=
  match s with
  | .absent => 0
  | .hold => 1
  | .settling => 2
  | .ready => 3
  | .feeding => 4
  | .closing => 5
  | .full => 6
  | .fault => 7
  | .sealed => 8

/-- Unit state codes (R165). -/
def unitStateCode (s : UnitState) : Nat :=
  match s with
  | .announced => 1
  | .degassing => 2
  | .degassed => 3
  | .inBatch => 4
  | .closed => 5

/-- Batch state codes; NONE is 0 (R117). -/
def batchStateCode (s : BatchState) : Nat :=
  match s with
  | .waitingFeed => 1
  | .opened => 2
  | .stalled => 3
  | .closing => 4
  | .settled => 5

/-- Channel state codes (R165). -/
def channelStateCode (s : ChannelState) : Nat :=
  match s with
  | .noSignal => 0
  | .ok => 1
  | .lost => 2

/-- End cause codes; 0 stands for no end cause (R73). -/
def endCauseCode (c : Option EndCause) : Nat :=
  match c with
  | none => 0
  | some .closed => 1
  | some .full => 2
  | some .abandoned => 3
  | some .interlock => 4
  | some .estop => 5

/-- Presence codes of the NODE_ERRORS item (R168). -/
def presenceCode (p : Presence) : Nat :=
  match p with
  | .unknown => 0
  | .present => 1
  | .unreachable => 2

/-- Status codes (R173). -/
def statusCode (s : Status) : Nat :=
  match s with
  | .ok => 0
  | .deferred => 1
  | .withdrawn => 2
  | .notPermitted => 3
  | .badArgument => 4
  | .noUnit => 5
  | .duplicate => 6
  | .tableFull => 7
  | .wrongState => 8
  | .owner => 9
  | .noVessel => 10
  | .waitExpired => 11
  | .slotBusy => 12
  | .feedActive => 13
  | .noFeed => 14
  | .feedEnded => 15
  | .classMismatch => 16
  | .batchFull => 17
  | .segmentLimit => 18
  | .permitOff => 19
  | .estop => 20
  | .storeBusy => 21
  | .clamped => 22
  | .bayBusy => 23

/-! ## Frame kinds (R162, R163) -/

/-- The kind byte of a request (00_scope.md, Requests; R163). -/
def reqCode (k : ReqKind) : Nat :=
  match k with
  | .replyLimit => 0x10
  | .linkStats => 0x11
  | .feedOpen => 0x12
  | .feedProgress => 0x13
  | .feedClose => 0x14
  | .feedCancel => 0x15
  | .feedOutcome => 0x16
  | .degasEnd => 0x17
  | .foamOpen => 0x18
  | .foamResume => 0x19
  | .foamClose => 0x1A
  | .batchQuery => 0x1B
  | .vesselQuery => 0x1C
  | .alarmRead => 0x1D
  | .permit => 0x1E
  | .vesselRetire => 0x1F
  | .vesselClearFault => 0x20
  | .linkOptions => 0x22
  | .announce => 0x50
  | .degasBegin => 0x51
  | .cabinetAdmit => 0x52
  | .unitQuery => 0x53
  | .unitRelease => 0x54
  | .vesselMount => 0x55
  | .calibrate => 0x56
  | .setParam => 0x57
  | .setExpect => 0x58
  | .setDigest => 0x59

/-- The request a kind byte names (R163). -/
def reqOfCode (n : Nat) : Option ReqKind :=
  match n with
  | 0x10 => some .replyLimit
  | 0x11 => some .linkStats
  | 0x12 => some .feedOpen
  | 0x13 => some .feedProgress
  | 0x14 => some .feedClose
  | 0x15 => some .feedCancel
  | 0x16 => some .feedOutcome
  | 0x17 => some .degasEnd
  | 0x18 => some .foamOpen
  | 0x19 => some .foamResume
  | 0x1A => some .foamClose
  | 0x1B => some .batchQuery
  | 0x1C => some .vesselQuery
  | 0x1D => some .alarmRead
  | 0x1E => some .permit
  | 0x1F => some .vesselRetire
  | 0x20 => some .vesselClearFault
  | 0x22 => some .linkOptions
  | 0x50 => some .announce
  | 0x51 => some .degasBegin
  | 0x52 => some .cabinetAdmit
  | 0x53 => some .unitQuery
  | 0x54 => some .unitRelease
  | 0x55 => some .vesselMount
  | 0x56 => some .calibrate
  | 0x57 => some .setParam
  | 0x58 => some .setExpect
  | 0x59 => some .setDigest
  | _ => none

/-- The kind byte of a line-control frame (R162). -/
def ctrlCode (k : CtrlKind) : Nat :=
  match k with
  | .select => 0x01
  | .selectAck => 0x02
  | .turn => 0x03
  | .endFrame => 0x04
  | .fill => 0x05
  | .report => 0x31
  | .reply => 0x70

/-- The line-control kind a kind byte names (R162). -/
def ctrlOfCode (n : Nat) : Option CtrlKind :=
  match n with
  | 0x01 => some .select
  | 0x02 => some .selectAck
  | 0x03 => some .turn
  | 0x04 => some .endFrame
  | 0x05 => some .fill
  | 0x31 => some .report
  | 0x70 => some .reply
  | _ => none

/-! ## Ranges and settings -/

/-- A unit tag in range is 1 to 99,999,999 (R1). -/
def tagInRange (t : Nat) : Bool := decide (1 ≤ t ∧ t ≤ 99999999)

/-- Clamped into `lo` to `hi` (00_scope.md, Conventions). -/
def clamp (lo hi v : Nat) : Nat := max lo (min hi v)

/-- The range of a parameter; an id outside 1 to 9 has none (R178). -/
def paramRange (id : Nat) : Option (Nat × Nat) :=
  match id with
  | 1 => some (5, 120)
  | 2 => some (1, 10)
  | 3 => some (1, 500)
  | 4 => some (100, 20000)
  | 5 => some (10, 600)
  | 6 => some (0, 1000)
  | 7 => some (0, 1000)
  | 8 => some (1000, 2000)
  | 9 => some (0, 200)
  | _ => none

/-- The parameter set with one parameter at a new value; an id outside 1 to 9 changes nothing (R178). -/
def Params.setId (p : Params) (id v : Nat) : Params :=
  match id with
  | 1 => { p with holdTime := v }
  | 2 => { p with settleTime := v }
  | 3 => { p with stabilityBand := v }
  | 4 => { p with grantReserve := v }
  | 5 => { p with waitLimit := v }
  | 6 => { p with minRecovery := v }
  | 7 => { p with yieldLow := v }
  | 8 => { p with yieldHigh := v }
  | 9 => { p with emptyThreshold := v }
  | _ => p

/-- The value of a parameter (R178). -/
def Params.getId (p : Params) (id : Nat) : Nat :=
  match id with
  | 1 => p.holdTime
  | 2 => p.settleTime
  | 3 => p.stabilityBand
  | 4 => p.grantReserve
  | 5 => p.waitLimit
  | 6 => p.minRecovery
  | 7 => p.yieldLow
  | 8 => p.yieldHigh
  | 9 => p.emptyThreshold
  | _ => 0

/-- A digest item is a selector 1 to 9 with an index in its range (R174). -/
def digestItemOk (item : Nat × Nat) : Bool :=
  match item.1 with
  | 1 | 2 | 3 | 4 => decide (item.2 < 8)
  | 5 | 6 | 7 => item.2 == 0
  | 8 => decide (1 ≤ item.2 ∧ item.2 ≤ 12)
  | 9 => decide (1 ≤ item.2 ∧ item.2 ≤ 2)
  | _ => false

/-! ## Big-endian fields (00_scope.md, Conventions) -/

/-- The low `k` bytes of a number, most significant first. -/
def beBytes (k n : Nat) : List Byte :=
  match k with
  | 0 => []
  | k + 1 => BitVec.ofNat 8 (n / 256 ^ k) :: beBytes k n

/-- The number that bytes spell, most significant first. -/
def beNat (bs : List Byte) : Nat := bs.foldl (fun a b => 256 * a + b.toNat) 0

/-- Bytes `off` to `off + len - 1` of a payload as a number. -/
def payloadField (p : List Byte) (off len : Nat) : Nat := beNat ((p.drop off).take len)

/-- A signed figure as four two's complement bytes (09, 9.7). -/
def signed4 (v : Int) : List Byte := beBytes 4 (BitVec.ofInt 32 v).toNat

/-- An optional figure of `k` bytes whose range excludes 0: absent is 0 (R165). -/
def optZero (k : Nat) (v : Option Nat) : List Byte := beBytes k (v.getD 0)

/-- An optional figure of `k` bytes whose range includes 0: absent is all bytes 0xFF (R165). -/
def optOnes (k : Nat) (v : Option Nat) : List Byte :=
  match v with
  | some n => beBytes k n
  | none => List.replicate k 0xFF

/-- A yes-or-no field: 1 for yes, 0 for no (R165). -/
def yesNo (b : Bool) : List Byte := [if b then 1 else 0]

end Sys2Proof.Machine
end

