-- ==== Sys2Proof/Machine/Flags.lean ====
section
/-! DEFINITION. Flags: the places of alarm kinds and groups, the mark bytes of records, and the link error bits. -/

namespace Sys2Proof.Machine

/-! ## Alarm kinds (R176) -/

/-- The kinds in the order of the table of R176. -/
def allAlarmKinds : List AlarmKind :=
  [.vesselFull, .channelLost, .channelRestored, .unstableReading, .negativeGain, .valveFault,
   .feedAbandoned, .waitExpired, .feedInterlock,
   .recoveryShort, .classMismatch, .foamMismatch, .yieldLow, .yieldHigh, .tableFull,
   .estopOn, .permitDropped, .powerOn, .nodeUnreachable, .lineReset, .storeLost]

/-- The place of a kind in the table of R176. -/
def alarmIx (k : AlarmKind) : Fin 21 :=
  match k with
  | .vesselFull => 0
  | .channelLost => 1
  | .channelRestored => 2
  | .unstableReading => 3
  | .negativeGain => 4
  | .valveFault => 5
  | .feedAbandoned => 6
  | .waitExpired => 7
  | .feedInterlock => 8
  | .recoveryShort => 9
  | .classMismatch => 10
  | .foamMismatch => 11
  | .yieldLow => 12
  | .yieldHigh => 13
  | .tableFull => 14
  | .estopOn => 15
  | .permitDropped => 16
  | .powerOn => 17
  | .nodeUnreachable => 18
  | .lineReset => 19
  | .storeLost => 20

/-- The group of a kind, 0 to 3 for A to D (R176). -/
def alarmGroupOf (k : AlarmKind) : Fin 4 :=
  match k with
  | .vesselFull | .channelLost | .channelRestored | .unstableReading | .negativeGain | .valveFault => 0
  | .feedAbandoned | .waitExpired | .feedInterlock => 1
  | .recoveryShort | .classMismatch | .foamMismatch | .yieldLow | .yieldHigh | .tableFull => 2
  | .estopOn | .permitDropped | .powerOn | .nodeUnreachable | .lineReset | .storeLost => 3

/-- The kinds whose subject is a bay: their absent subject is sent as 0xFFFFFFFF (R177). -/
def subjectIsBay (k : AlarmKind) : Bool :=
  match k with
  | .vesselFull | .channelLost | .channelRestored | .unstableReading | .negativeGain | .valveFault | .storeLost => true
  | _ => false

/-- The alarm set with one more count of a kind: the count saturates at 255, subject and value are replaced, and the
group's flag is set (R176). -/
def AlarmSet.count (a : AlarmSet) (k : AlarmKind) (subject : Option Nat) (value : Int) : AlarmSet :=
  { recs := a.recs.set (alarmIx k)
      { count := min 255 ((a.recs[alarmIx k]).count + 1), subject := subject, value := value }
    groups := a.groups.set (alarmGroupOf k) true }

/-- The kinds of a group, in table order (R177). -/
def kindsOfGroup (g : Fin 4) : List AlarmKind := allAlarmKinds.filter (fun k => alarmGroupOf k = g)

/-- The alarm set with one group cleared (R177). -/
def AlarmSet.clearGroup (a : AlarmSet) (g : Fin 4) : AlarmSet :=
  { recs := (kindsOfGroup g).foldl (fun r k => r.set (alarmIx k) { }) a.recs
    groups := a.groups.set g false }

/-! ## Mark bytes (R165) -/

/-- Weight of a bit that is set. -/
def bitWeight (b : Bool) (w : Nat) : Nat := if b then w else 0

/-- The marks byte of a unit (R165). -/
def UnitMarks.byte (m : UnitMarks) : Nat :=
  bitWeight m.classMismatch 1 + bitWeight m.short 2 + bitWeight m.empty 4 + bitWeight m.negGain 8
    + bitWeight m.unstable 16 + bitWeight m.foamMismatch 32

/-- The marks byte of a batch (R165). -/
def BatchMarks.byte (m : BatchMarks) : Nat :=
  bitWeight m.estimated 1 + bitWeight m.unstable 2 + bitWeight m.yieldLow 4 + bitWeight m.yieldHigh 8

/-! ## Link error bits (R158) -/

/-- The error bits of R158. -/
inductive ErrBit where
  | hdrFixed | hdrBad | crcBad | kindUnknown | lengthBad | burstOver | outOfPlace | truncated | addressBad | skipped
deriving DecidableEq, Repr

/-- The number of an error bit (R158). -/
def errBitNo (e : ErrBit) : Nat :=
  match e with
  | .hdrFixed => 0
  | .hdrBad => 1
  | .crcBad => 2
  | .kindUnknown => 3
  | .lengthBad => 4
  | .burstOver => 5
  | .outOfPlace => 6
  | .truncated => 7
  | .addressBad => 8
  | .skipped => 9

/-- Bits 1 to 8 are counted in the link error counter; HDR_FIXED and SKIPPED are not (R158, R160). -/
def errCounted (e : ErrBit) : Bool := e != .hdrFixed && e != .skipped

/-- The error set with one bit added (R158). -/
def addErr (e : ErrBit) (set : BitVec 16) : BitVec 16 := set ||| BitVec.twoPow 16 (errBitNo e)

/-- The link error counter saturates at 255, and a counted error taken at 255 sets the saturated flag (R160). -/
def NodeRec.countError (r : NodeRec) : NodeRec :=
  if r.errCount ≥ 255 then { r with errCount := 255, saturated := true } else { r with errCount := r.errCount + 1 }

end Sys2Proof.Machine
end

