-- ==== Sys2Proof/Machine/Frames.lean ====
section
/-! DEFINITION. Frames of the plant line: the header check (R159), the CRC (R160), the checks of a received frame
(R158), the layouts of frames (R162, R163) and of reply bodies (R165). -/

namespace Sys2Proof.Machine

/-! ## Header check (R159) -/

/-- The positions of the 40 data bits in the code word, first sent first: 1 to 46 without the powers of two (R159). -/
def dataPositions : List Nat :=
  [3, 5, 6, 7, 9, 10, 11, 12, 13, 14, 15, 17, 18, 19, 20, 21, 22, 23, 24, 25, 26, 27, 28, 29, 30, 31,
   33, 34, 35, 36, 37, 38, 39, 40, 41, 42, 43, 44, 45, 46]

/-- The exclusive or of the positions in `ps` whose data bit is one; the bit of the list's place `i` is bit `39 - i`
of the header. Bit `k` of the result is the parity of the data positions whose index has bit `k` set (R159). -/
def posXor (d : BitVec 40) (ps : List Nat) (i : Nat) : BitVec 6 :=
  match ps with
  | [] => 0
  | p :: rest => (if d.getLsbD (39 - i) then BitVec.ofNat 6 p else 0) ^^^ posXor d rest (i + 1)

/-- The check bits of a header's data (R159, step 2). -/
def checkBits (d : BitVec 40) : BitVec 6 := posXor d dataPositions 0

/-- Whether a number of ones is odd. -/
def parity {w : Nat} (x : BitVec w) : Bool := (List.range w).foldl (fun a i => a ^^ x.getLsbD i) false

/-- Byte 5 of a header: the overall parity, check bits 5 to 0, and a 0 (R159). -/
def headerCheck (d : BitVec 40) : BitVec 8 :=
  BitVec.ofBool (parity d ^^ parity (checkBits d)) ++ checkBits d ++ (0 : BitVec 1)

/-- The data with the bit at a position of the code word flipped; a check bit's position leaves the data as it is. -/
def flipPosition (d : BitVec 40) (p : Nat) : BitVec 40 :=
  match dataPositions.idxOf? p with
  | some i => d ^^^ BitVec.twoPow 40 (39 - i)
  | none => d

/-- What the receiver makes of a header (R159). -/
inductive HeaderResult where
  | correct (d : BitVec 40)
  | corrected (d : BitVec 40)
  | bad
deriving DecidableEq, Repr

/-- The receiver's decision on data `d` and byte 5 `k` (R159, the table of syndrome, parity and bit 0). -/
def decodeHeader (d : BitVec 40) (k : BitVec 8) : HeaderResult :=
  let s : BitVec 6 := checkBits d ^^^ k.extractLsb' 1 6
  let p : Bool := parity d ^^ parity (k.extractLsb' 1 7)
  let low : Bool := k.getLsbD 0
  if s = 0 then
    if p then (if low then .bad else .corrected d)
    else (if low then .corrected d else .correct d)
  else if p && !low && decide (s.toNat ≤ 46) then .corrected (flipPosition d s.toNat)
  else .bad

/-- The fields of a header (R162). -/
structure Header where
  kind : Nat
  sender : Nat
  receiver : Nat
  tag : Nat
  arg : Nat
deriving DecidableEq, Repr

/-- The fields of the 40 data bits (R162). -/
def headerFields (d : BitVec 40) : Header :=
  { kind := (d.extractLsb' 32 8).toNat
    sender := (d.extractLsb' 28 4).toNat
    receiver := (d.extractLsb' 24 4).toNat
    tag := (d.extractLsb' 16 8).toNat
    arg := (d.extractLsb' 0 16).toNat }

/-- The 40 data bits of a header (R162). -/
def headerBits (h : Header) : BitVec 40 :=
  BitVec.ofNat 8 h.kind ++ BitVec.ofNat 4 h.sender ++ BitVec.ofNat 4 h.receiver ++ BitVec.ofNat 8 h.tag
    ++ BitVec.ofNat 16 h.arg

/-- The six bytes of 40 data bits with their header check (R159, R162). -/
def headerBytesOf (d : BitVec 40) : List Byte :=
  [d.extractLsb' 32 8, d.extractLsb' 24 8, d.extractLsb' 16 8, d.extractLsb' 8 8, d.extractLsb' 0 8, headerCheck d]

/-- The six bytes of a header (R162). -/
def headerBytes (h : Header) : List Byte := headerBytesOf (headerBits h)

/-! ## CRC (R160) -/

/-- One bit shifted through the register. -/
def crcBit (r : BitVec 16) : BitVec 16 := if r.msb then (r <<< 1) ^^^ 0x1021 else r <<< 1

/-- One byte shifted through the register, most significant bit first (R160). -/
def crcByte (r : BitVec 16) (b : Byte) : BitVec 16 :=
  crcBit (crcBit (crcBit (crcBit (crcBit (crcBit (crcBit (crcBit (r ^^^ (b.setWidth 16 <<< 8)))))))))

/-- The CRC of a run of bytes (R160). -/
def crc16 (bs : List Byte) : BitVec 16 := bs.foldl crcByte 0xFFFF

/-- The two bytes of a CRC, high byte first (R160). -/
def crcBytes (c : BitVec 16) : List Byte := [c.extractLsb' 8 8, c.extractLsb' 0 8]

/-! ## Reading a frame (R158) -/

/-- The header of raw bytes as far as check 2 takes it: the data, the corrected flag and what follows. -/
inductive HeaderRead where
  | truncated
  | bad
  | read (d : BitVec 40) (corrected : Bool) (rest : List Byte)
deriving DecidableEq, Repr

/-- Checks 1 and 2 of R158. -/
def readHeader (raw : RawFrame) : HeaderRead :=
  match raw with
  | b0 :: b1 :: b2 :: b3 :: b4 :: b5 :: rest =>
    match decodeHeader (b0 ++ b1 ++ b2 ++ b3 ++ b4) b5 with
    | .correct d => .read d false rest
    | .corrected d => .read d true rest
    | .bad => .bad
  | _ => .truncated

/-- The header fields of raw bytes whose header check does not fail (R149). -/
def headerOf (raw : RawFrame) : Option Header :=
  match readHeader raw with
  | .read d _ _ => some (headerFields d)
  | _ => none

/-- The header of raw bytes is whole and of a line-control kind (R149, R154). -/
def isCtrl (raw : RawFrame) (k : CtrlKind) : Bool :=
  match headerOf raw with
  | some h => h.kind == ctrlCode k
  | none => false

/-- A frame that passes checks 1 to 8 of R158. -/
inductive Kept where
  | ctrl (k : CtrlKind)
  | request (f : ReqFrame)
deriving DecidableEq, Repr

/-- The outcome of checks 1 to 8: the bit of the first check that fails or the kept frame, and whether the header was
corrected (HDR_FIXED). -/
inductive Verdict where
  | discard (e : ErrBit) (corrected : Bool)
  | keep (f : Kept) (corrected : Bool)
deriving DecidableEq, Repr

/-- Checks 7 and 8 of R158 on a frame whose form is whole. -/
def checkKindAndAddress (partner : Node) (h : Header) (payload : List Byte) (corrected : Bool) : Verdict :=
  let addressed : Bool := h.sender == nodeAddr partner && h.receiver == 0
  match reqOfCode h.kind, ctrlOfCode h.kind with
  | some k, _ =>
    if addressed then .keep (.request { kind := k, tag := h.tag, arg := h.arg, payload := payload }) corrected
    else .discard .addressBad corrected
  | none, some k => if addressed then .keep (.ctrl k) corrected else .discard .addressBad corrected
  | none, none => .discard .kindUnknown corrected

/-- Checks 1 to 8 of R158, in their order. A long kind is 0x40 to 0x7F. -/
def checkFrame (partner : Node) (raw : RawFrame) : Verdict :=
  match readHeader raw with
  | .truncated => .discard .truncated false
  | .bad => .discard .hdrBad false
  | .read d corrected rest =>
    let h := headerFields d
    if h.kind = 0 ∨ h.kind ≥ 0x80 then .discard .kindUnknown corrected
    else if h.kind < 0x40 then checkKindAndAddress partner h [] corrected
    else if h.arg = 0 ∨ h.arg > 512 then .discard .lengthBad corrected
    else if rest.length < h.arg + 2 then .discard .truncated corrected
    else if crcBytes (crc16 (headerBytesOf d ++ rest.take h.arg)) ≠ (rest.drop h.arg).take 2 then
      .discard .crcBad corrected
    else checkKindAndAddress partner h (rest.take h.arg) corrected

/-! ## Writing a frame (R162, R163) -/

/-- The bytes of a short frame. -/
def shortBytes (h : Header) : List Byte := headerBytes h

/-- The bytes of a long frame: header, payload, CRC (R158, R160). -/
def longBytes (h : Header) (payload : List Byte) : List Byte :=
  headerBytes h ++ payload ++ crcBytes (crc16 (headerBytes h ++ payload))

/-- The bytes a master sends for a request frame (R162, R163). -/
def ReqFrame.bytes (sender : Node) (f : ReqFrame) : List Byte :=
  let h : Header := { kind := reqCode f.kind, sender := nodeAddr sender, receiver := 0, tag := f.tag, arg := f.arg }
  if reqCode f.kind < 0x40 then shortBytes h else longBytes { h with arg := f.payload.length } f.payload

/-- The bytes a master sends for a line-control frame (R162). -/
def ctrlBytes (sender : Node) (k : CtrlKind) : List Byte :=
  shortBytes { kind := ctrlCode k, sender := nodeAddr sender, receiver := 0, tag := 0, arg := 0 }

/-- The bytes of a frame the PLI sends to a node (R162, R164): sender 0, tag and argument 0 in line-control frames. -/
def OutFrame.bytes (dest : Node) (f : OutFrame) : List Byte :=
  let h : Header := { kind := 0, sender := 0, receiver := nodeAddr dest, tag := 0, arg := 0 }
  match f with
  | .select => shortBytes { h with kind := ctrlCode .select }
  | .selectAck => shortBytes { h with kind := ctrlCode .selectAck }
  | .turn => shortBytes { h with kind := ctrlCode .turn }
  | .endFrame => shortBytes { h with kind := ctrlCode .endFrame }
  | .report bits => shortBytes { h with kind := ctrlCode .report, arg := bits.toNat }
  | .slotReply tag p => longBytes { h with kind := ctrlCode .reply, tag := tag, arg := p.length } p
  | .reply tag p => longBytes { h with kind := ctrlCode .reply, tag := tag, arg := p.length } p

/-! ## Reply bodies (R165) -/

/-- The parts of a feed-outcome body or of a segment: bay, end cause, settled, gain, estimated. -/
def outcomeBytes (bay : BayIx) (cause : Option EndCause) (settled : Bool) (gain : Option Nat) (estimated : Bool) :
    List Byte :=
  beBytes 1 bay.val ++ beBytes 1 (endCauseCode cause) ++ yesNo settled ++ optOnes 4 gain ++ yesNo estimated

/-- The class byte; absent is 0. -/
def classByte (g : Option GasClass) : List Byte := beBytes 1 ((g.map classCode).getD 0)

/-- The unit record body, 33 bytes (R165). -/
def UnitRec.bytes (u : UnitRec) : List Byte :=
  beBytes 4 u.tag ++ beBytes 1 (unitStateCode u.state) ++ beBytes 1 (categoryCode u.category) ++ classByte u.declRefr
    ++ optZero 2 u.declCharge ++ classByte u.declFoam ++ classByte u.identRefr ++ optZero 1 (u.station.map nodeAddr)
    ++ beBytes 4 u.recovered ++ beBytes 1 u.feedCount ++ yesNo u.estimated ++ beBytes 1 u.abortCount
    ++ beBytes 1 (match u.outcome with
        | none => 0
        | some .complete => 1
        | some .noCharge => 2)
    ++ optOnes 2 u.ratio ++ beBytes 1 u.marks.byte ++ classByte u.identFoam
    ++ optZero 1 (u.batch.map (fun b => lineNumber b.1)) ++ optZero 2 (u.batch.map (fun b => b.2))
    ++ optZero 2 u.foamWeight ++ optOnes 4 u.foamShare

/-- Max fill: water capacity times the fill density of the class; absent without a vessel (R22, R23). -/
def Bay.maxFill (r : Bay) : Option Nat := r.vessel.map (fun v => v.capacity * fillDensity v.cls)

/-- Headroom: max fill less net, never below 0; absent without a vessel (R22). -/
def Bay.headroom (r : Bay) : Option Nat := r.maxFill.map (fun m => m - r.net)

/-- The weighed flag: net came from a settled reading (R22). -/
def Bay.weighed (r : Bay) : Bool := r.source == .settled

/-- The vessel record body, 44 bytes (R165). -/
def vesselBytes (bay : BayIx) (r : Bay) (feed : Option (Node × Option EndCause)) (switch : Bool) (chan : ChannelState)
    (validRun : Nat) (under : Bool) : List Byte :=
  beBytes 1 bay.val ++ beBytes 1 (bayStateCode r.state) ++ optZero 2 (r.vessel.map (·.id))
    ++ classByte (r.vessel.map (·.cls)) ++ optZero 2 (r.vessel.map (·.capacity)) ++ optZero 4 (r.vessel.map (·.tare))
    ++ optZero 4 r.maxFill ++ beBytes 4 r.net ++ yesNo r.weighed ++ beBytes 4 r.book ++ signed4 r.unreconciled
    ++ optOnes 4 r.headroom ++ optZero 1 (feed.map (fun f => nodeAddr f.1))
    ++ beBytes 1 (endCauseCode (feed.bind (fun f => f.2))) ++ beBytes 3 r.zero ++ beBytes 2 r.scale ++ yesNo switch
    ++ yesNo r.closeWatch.isSome ++ beBytes 1 (channelStateCode chan) ++ beBytes 1 validRun ++ yesNo under

/-- The batch record body: 19 bytes, 8 per segment, 10 per cabinet (R165). For a slot in NONE the number is the line's
last batch number, the counts are 0 and the other fields are absent; DEDUCED (log 11): the absent marks byte is 0xFF. -/
def batchBytes (line : FoamLine) (slot lastNumber : Nat) (record : Option Batch) : List Byte :=
  match record with
  | none =>
    beBytes 1 (lineNumber line) ++ beBytes 1 slot ++ beBytes 1 0 ++ beBytes 2 lastNumber ++ classByte none
      ++ optOnes 1 none ++ optOnes 4 none ++ optOnes 4 none ++ optOnes 2 none ++ beBytes 1 0 ++ beBytes 1 0
  | some b =>
    beBytes 1 (lineNumber line) ++ beBytes 1 slot ++ beBytes 1 (batchStateCode b.state) ++ beBytes 2 b.number
      ++ classByte (some b.cls) ++ beBytes 1 b.marks.byte ++ optOnes 4 b.total ++ optOnes 4 b.unassigned
      ++ optOnes 2 b.yield ++ beBytes 1 b.segments.length ++ beBytes 1 b.cabinets.length
      ++ b.segments.flatMap (fun g => outcomeBytes g.bay g.endCause g.settled g.gain g.estimated)
      ++ b.cabinets.flatMap (fun c => beBytes 4 c.tag ++ beBytes 2 c.weight ++ optOnes 4 c.share)

/-- The nine bytes of one kind in an alarm group body (R165, R177). -/
def alarmRowBytes (row : AlarmKind × Alarm) : List Byte :=
  beBytes 1 row.2.count ++ (if subjectIsBay row.1 then optOnes 4 row.2.subject else optZero 4 row.2.subject)
    ++ signed4 row.2.value

/-- The bytes of a reply body (R165). -/
def Body.bytes (b : Body) : List Byte :=
  match b with
  | .none => []
  | .grant bay vid headroom => beBytes 1 bay.val ++ beBytes 2 vid ++ beBytes 4 headroom
  | .progress headroom10 estimateMode => beBytes 2 headroom10 ++ yesNo estimateMode
  | .outcome o => outcomeBytes o.bay o.endCause o.settled o.gain o.estimated
  | .degas taken recovered feedCount ratio marks =>
    beBytes 1 (match taken with
      | .complete => 1
      | .noCharge => 2
      | .aborted => 3)
      ++ beBytes 4 recovered ++ beBytes 1 feedCount ++ optOnes 2 ratio ++ beBytes 1 marks.byte
  | .admitted weight position => beBytes 2 weight ++ beBytes 1 position
  | .completion total yield cabinets => beBytes 4 total ++ optOnes 2 yield ++ beBytes 1 cabinets
  | .interlock permitOn flag healthy estop => yesNo permitOn ++ yesNo flag ++ yesNo healthy ++ yesNo estop
  | .applied value => beBytes 2 value
  | .linkStats node counter saturated => beBytes 1 (nodeAddr node) ++ beBytes 1 counter ++ yesNo saturated
  | .alarmGroup group rows => beBytes 1 (group.val + 1) ++ rows.flatMap alarmRowBytes
  | .unit u => u.bytes
  | .vessel bay r feed switch chan validRun under => vesselBytes bay r feed switch chan validRun under
  | .batch line slot lastNumber record => batchBytes line slot lastNumber record

end Sys2Proof.Machine
end

