-- ==== Sys2Proof/Machine/Attribution.lean ====
section
/-! DEFINITION. Arithmetic: raw codes to grams (R50), means and spreads (R55, R57), the gain of a feed (R100-R103), the
recovery ratio (R105), and the batch gain, split and yield (R106-R112). The Attribution Unit keeps no state (R99). -/

namespace Sys2Proof.Machine

/-- A quotient rounded half up (00_scope.md, Conventions). -/
def divRound (a b : Nat) : Nat := (2 * a + b) / (2 * b)

/-! ## Weighing -/

/-- The gross of a valid raw code and the under flag (R50). -/
def grossOf (raw zeroAt scale : Nat) : Nat × Bool :=
  if zeroAt ≤ raw then (min 1000000 (divRound ((raw - zeroAt) * scale) 65536), false) else (0, true)

/-- The mean of eight values, rounded half up (R55, R57). -/
def mean8 (xs : List Nat) : Nat := divRound xs.sum 8

/-- The largest value less the smallest (R55). -/
def spread (xs : List Nat) : Nat := xs.foldl max 0 - xs.foldl min (xs.foldl max 0)

/-! ## The gain of a feed -/

/-- The four figures of a feed gain (R103). -/
structure GainResult where
  gain : Nat
  estimated : Bool
  clampedNegative : Bool
  unstable : Bool
deriving DecidableEq, Repr

/-- A weighed gain: settled net less start net, 0 with the clamped flag where negative (R100, R101). -/
def weighedGain (startNet settledNet : Nat) (unstable : Bool) : GainResult :=
  { gain := settledNet - startNet, estimated := false, clampedNegative := decide (settledNet < startNet),
    unstable := unstable }

/-- An estimated gain: the frozen flow estimate (R102). -/
def estimatedGain (estimate : Nat) : GainResult :=
  { gain := estimate, estimated := true, clampedNegative := false, unstable := false }

/-! ## The recovery ratio -/

/-- Recovered mass times 1,000 over the declared charge, rounded half up, saturated at 2,000 (R105). -/
def recoveryRatio (recovered charge : Nat) : Nat := min 2000 (divRound (recovered * 1000) charge)

/-! ## The batch gain, split and yield -/

/-- G: the sum of the segment gains, saturated at 1,000,000 g (R106). -/
def batchGain (segs : List Segment) : Nat := min 1000000 (segs.map (fun g => g.gain.getD 0)).sum

/-- The remainder of G times a weight by the sum of weights (R108, step 1). -/
def splitRemainder (total sumW w : Nat) : Nat := total * w % sumW

/-- How many cabinets rank before the one at place `i`: those of a larger remainder, and those of an equal remainder
admitted earlier (R108, step 3). -/
def splitRank (rems : List Nat) (i : Nat) : Nat :=
  ((List.range rems.length).filter (fun j =>
    decide (rems.getD i 0 < rems.getD j 0) || (decide (rems.getD j 0 = rems.getD i 0) && decide (j < i)))).length

/-- The shares of a split, in admission order: the base share, and 1 g more for the first `r` of the ranking, where `r`
is the residue (R108). -/
def splitShares (total : Nat) (weights : List Nat) : List Nat :=
  let sumW := weights.sum
  let bases := weights.map (fun w => total * w / sumW)
  let rems := weights.map (splitRemainder total sumW)
  let residue := total - bases.sum
  (List.range weights.length).map (fun i => bases.getD i 0 + if splitRank rems i < residue then 1 else 0)

/-- G times 1,000 over the sum of weights, rounded half up, saturated at 2,000; absent without cabinets (R110, R111). -/
def batchYield (total : Nat) (weights : List Nat) : Option Nat :=
  if weights = [] then none else some (min 2000 (divRound (total * 1000) weights.sum))

end Sys2Proof.Machine
end

