-- ==== Sys2Proof/Machine/Ops.lean ====
section
/-! DEFINITION. The named operations every meaning is written over: reading and writing records, counting alarms, the
pending slots and the delivery list, windows, and the taking of a request. -/

namespace Sys2Proof.Machine

/-! ## Records -/

def State.bay (s : State) (b : BayIx) : Bay := s.bays[b]
def State.channel (s : State) (b : BayIx) : Channel := s.channels[b]
def State.feed (s : State) (b : BayIx) : Option Feed := s.feeds[b]
def State.valve (s : State) (b : BayIx) : Bool := s.valves[b]
def State.switch (s : State) (b : BayIx) : Bool := s.switches[b]
def State.node (s : State) (n : Node) : NodeRec := s.nodes[n]
def State.line (s : State) (l : FoamLine) : LineRec := s.batches.lines[l]

def State.setBay (s : State) (b : BayIx) (r : Bay) : State := { s with bays := s.bays.set b r }
def State.setChannel (s : State) (b : BayIx) (r : Channel) : State := { s with channels := s.channels.set b r }
def State.setFeed (s : State) (b : BayIx) (r : Option Feed) : State := { s with feeds := s.feeds.set b r }
def State.setValve (s : State) (b : BayIx) (isOpen : Bool) : State := { s with valves := s.valves.set b isOpen }
def State.setSwitch (s : State) (b : BayIx) (closed : Bool) : State := { s with switches := s.switches.set b closed }
def State.setNode (s : State) (n : Node) (r : NodeRec) : State := { s with nodes := s.nodes.set n r }

def State.setLine (s : State) (l : FoamLine) (r : LineRec) : State :=
  { s with batches := { s.batches with lines := s.batches.lines.set l r } }

def State.setWaits (s : State) (ws : List WaitEntry) : State := { s with waits := ws }
def State.setUnits (s : State) (us : List UnitRec) : State := { s with units := us }
def State.setPli (s : State) (p : Pli) : State := { s with pli := p }
def State.setStoreOp (s : State) (op : StoreOp) : State := { s with store := { s.store with op := op } }

/-! ## The clock (log 2) -/

/-- The clock moves to the arrival moment of a command, and never back. -/
def State.advance (s : State) (arrival : Nat) : State := { s with now := max s.now arrival }

/-- A deadline has passed when it is present and the clock has reached it. -/
def State.passed (s : State) (deadline : Option Nat) : Bool :=
  match deadline with
  | some d => decide (d ≤ s.now)
  | none => false

/-! ## Alarms, permit -/

/-- An alarm is counted (R176). -/
def State.alarm (s : State) (k : AlarmKind) (subject : Option Nat) (value : Int := 0) : State :=
  { s with alarms := s.alarms.count k subject value }

/-- The flammable permit: ON exactly while the flag is ON and gas-healthy is HEALTHY (R136). -/
def State.permitOn (s : State) : Bool := s.interlock.flag && s.interlock.healthy

/-- Gas of class `g` may be granted now: no condition for CL and FL; for HC and MX the permit is on and the E-stop is
not asserted (R87, R90). -/
def State.gasAllowed (s : State) (g : GasClass) : Bool :=
  !flammable g || (s.permitOn && !s.interlock.estop)

/-! ## Units -/

/-- The record of a tag (R1). -/
def State.unit? (s : State) (tag : Nat) : Option UnitRec := s.units.find? (fun u => u.tag == tag)

/-- The record of a tag rewritten. -/
def State.modUnit (s : State) (tag : Nat) (f : UnitRec → UnitRec) : State :=
  s.setUnits (s.units.map (fun u => if u.tag = tag then f u else u))

/-- The unit bound to a station: in DEGASSING with the station in its station field (R2). -/
def State.boundUnit (s : State) (n : Node) : Option UnitRec :=
  s.units.find? (fun u => u.state == .degassing && u.station == some n)

/-! ## Feeds and entries of a node -/

/-- The bay whose feed a node owns (R63). -/
def State.ownedBay (s : State) (n : Node) : Option BayIx :=
  allBays.find? (fun b => match s.feed b with
    | some f => f.owner == n
    | none => false)

/-- The feed a node owns, with its bay. -/
def State.ownedFeed (s : State) (n : Node) : Option (BayIx × Feed) :=
  match s.ownedBay n with
  | none => none
  | some b => (s.feed b).map (fun f => (b, f))

/-- The wait entry of a node (R86). -/
def State.entry (s : State) (n : Node) : Option WaitEntry := s.waits.find? (fun e => e.node == n)

/-- The list without the entry of a node; the others keep their order (R86). -/
def State.dropEntry (s : State) (n : Node) : State := s.setWaits (s.waits.filter (fun e => e.node != n))

/-! ## Pending slots and the delivery list (R153, R169) -/

def State.setSlot (s : State) (n : Node) (x : Slot) : State := s.setNode n { s.node n with slot := x }

/-- The slot goes to DEFERRED for a request (R169). -/
def State.defer (s : State) (n : Node) (tag : Nat) (k : ReqKind) : State := s.setSlot n (.deferred tag k)

/-- The slot becomes DELIVERABLE, and the node's address joins the delivery list at the tail (R153, R169). -/
def State.deliver (s : State) (n : Node) (r : SlotReply) : State :=
  let s1 := s.setSlot n (.deliverable r)
  s1.setPli { s1.pli with delivery := s1.pli.delivery ++ [n] }

/-- Where the slot is DEFERRED for a request of kind `k`, its reply becomes DELIVERABLE with status OK and a body
(R80, R130). -/
def State.releaseDeferred (s : State) (n : Node) (k : ReqKind) (b : Body) : State :=
  match (s.node n).slot with
  | .deferred tag k' => if k' = k then s.deliver n { tag := tag, kind := k, status := .ok, body := b } else s
  | _ => s

/-- A waiting request gets its answer: the slot holds the entry's tag and kind with a status and a body (R91-R96). -/
def State.answerEntry (s : State) (e : WaitEntry) (st : Status) (b : Body) : State :=
  s.deliver e.node { tag := e.tag, kind := e.kind, status := st, body := b }

/-- The feed-outcome field of a node rewritten where it is present (R65). -/
def State.modOutcome (s : State) (n : Node) (f : FeedOutcome → FeedOutcome) : State :=
  s.setNode n { s.node n with outcome := (s.node n).outcome.map f }

/-! ## Batches -/

/-- The current slot's batch of a line rewritten where there is one. -/
def State.modCurrent (s : State) (l : FoamLine) (f : Batch → Batch) : State :=
  s.setLine l { s.line l with current := (s.line l).current.map f }

/-- The element at a place rewritten. -/
def modifyAt {α : Type} (f : α → α) (xs : List α) (i : Nat) : List α :=
  match xs, i with
  | [], _ => []
  | x :: rest, 0 => f x :: rest
  | x :: rest, i + 1 => x :: modifyAt f rest i

/-! ## Windows -/

/-- A BASELINE or FEED_END window opens at its trigger, now: phase WAIT, settle deadline the settle time ahead (R53). -/
def State.openWindow (s : State) (b : BayIx) (p : WindowPurpose) : State :=
  s.setChannel b { s.channel b with
    window := some { purpose := p, phase := .wait, settleDeadline := some (s.now + 1000 * s.params.settleTime),
                     setNo := 1, band := none, samples := [] } }

/-- A ZERO_CAPTURE window opens in phase AVERAGE with no settle deadline (R53). -/
def State.openCapture (s : State) (b : BayIx) : State :=
  s.setChannel b { s.channel b with
    window := some { purpose := .zeroCapture, phase := .average, settleDeadline := none, setNo := 1, band := none,
                     samples := [] } }

/-- A bay comes into service or back into it: SETTLING with a BASELINE window where its channel is OK, HOLD otherwise
(R27, R30, R32, R34, R37). -/
def State.enterService (s : State) (b : BayIx) : State :=
  if (s.channel b).state = .ok then (s.setBay b { s.bay b with state := .settling }).openWindow b .baseline
  else s.setBay b { s.bay b with state := .hold }

/-! ## Taking a request (R151, R167, R173) -/

/-- What a taken request gives: the state it leaves, and the status and body of its reply. -/
structure Taken where
  state : State
  status : Status
  body : Body := .none

/-- A request answered with a status and no body, changing nothing. -/
def refuse (s : State) (st : Status) : Taken := { state := s, status := st }

/-- The answer to a request is kept in `lastReply` (log 1). -/
def State.replied (s : State) (n : Node) (tag : Nat) (k : ReqKind) (st : Status) (b : Body) : State :=
  { s with lastReply := some { node := n, tag := tag, kind := k, status := st, body := b } }

/-- A request of kind `k` from node `n` is taken: the role is checked first, then the owner's part runs (R167), and the
answer is kept (log 1). -/
def take (n : Node) (tag : Nat) (k : ReqKind) (act : State → Taken) (s : State) : State :=
  let r := if permitted k (roleOf n) then act s else refuse s .notPermitted
  r.state.replied n tag k r.status r.body

/-- Commands other than the inputs' own find a GX-612 whose reset input is asserted at rest: it has stopped all work
(R146; log 17). -/
def live (act : State → State) (s : State) : Host.Outcome State Fault Refusal :=
  if s.inReset then .next s else .next (act s)

end Sys2Proof.Machine
end

