-- ==== Sys2Proof/Machine/Granting.lean ====
section
/-! DEFINITION. The choice of a vessel, grants, the Wait List's decision and the grant scan (R66, R67, R86-R92, R96). -/

namespace Sys2Proof.Machine

/-- The vessel class of a bay accepts a gas class; a bay without a vessel accepts none (R23). -/
def State.bayAccepts (s : State) (b : BayIx) (g : GasClass) : Bool :=
  match (s.bay b).vessel with
  | some v => accepts v.cls g
  | none => false

/-- The bay's headroom is at least the grant reserve as it stands (R26, R67, R87). -/
def State.hasReserve (s : State) (b : BayIx) : Bool :=
  match (s.bay b).headroom with
  | some h => decide (s.params.grantReserve ≤ h)
  | none => false

/-! ## The vessel choice (R87) -/

/-- A candidate of the vessel choice for gas class `g` (R87). -/
def State.candidate (s : State) (g : GasClass) (b : BayIx) : Bool :=
  (s.bay b).state == .ready && (s.channel b).state == .ok && s.bayAccepts b g && s.hasReserve b && s.gasAllowed g

/-- The vessel class of the bay equals the gas class (R87, key 1). -/
def State.exactClass (s : State) (g : GasClass) (b : BayIx) : Bool :=
  match (s.bay b).vessel with
  | some v => v.cls == g
  | none => false

/-- Bay `a` comes before bay `b` in the order of R87: exact class, then least headroom, then lowest number. -/
def State.chosenBefore (s : State) (g : GasClass) (a b : BayIx) : Bool :=
  let ha := ((s.bay a).headroom).getD 0
  let hb := ((s.bay b).headroom).getD 0
  if s.exactClass g a != s.exactClass g b then s.exactClass g a
  else if ha ≠ hb then decide (ha < hb)
  else decide (a < b)

/-- The first of some bays in the order of R87. -/
def State.firstBay (s : State) (g : GasClass) (bs : List BayIx) : Option BayIx :=
  match bs with
  | [] => none
  | b :: rest =>
    match s.firstBay g rest with
    | none => some b
    | some a => some (if s.chosenBefore g a b then a else b)

/-- The vessel choice: the first candidate in the order of R87. -/
def State.chooseVessel (s : State) (g : GasClass) : Option BayIx :=
  s.firstBay g (allBays.filter (s.candidate g))

/-! ## The grant (R67, R91, R121) -/

/-- The grant body: bay, vessel id, and the bay's headroom at the grant (R67). -/
def State.grantBody (s : State) (b : BayIx) : Body :=
  .grant b (((s.bay b).vessel.map (·.id)).getD 0) (((s.bay b).headroom).getD 0)

/-- The feed record of a grant (R67). -/
def State.newFeed (s : State) (b : BayIx) (n : Node) (p : FeedPurpose) (g : GasClass) : Feed :=
  { owner := n, purpose := p, cls := g, state := .feeding, startNet := (s.bay b).net, estimate := 0, weightKept := true,
    holdDeadline := some (s.now + 1000 * s.params.holdTime), endCause := none, booked := false }

/-- A feed is created on a bay: the record, the bay in FEEDING, the valve commanded open, and the owner's feed-outcome
field replaced whole (R67, R25, R64, R65). -/
def State.createFeed (s : State) (b : BayIx) (n : Node) (p : FeedPurpose) (g : GasClass) : State :=
  let s1 := s.setFeed b (some (s.newFeed b n p g))
  let s2 := s1.setBay b { s1.bay b with state := .feeding }
  let s3 := s2.setValve b true
  s3.setNode n { s3.node n with
    outcome := some { bay := b, endCause := none, settled := false, gain := none, estimated := false } }

/-- A segment is appended for a granted bay, and the batch goes to OPEN (R116, R121). -/
def Batch.openSegment (bt : Batch) (b : BayIx) : Batch :=
  { bt with state := .opened
            segments := bt.segments ++ [{ bay := b, endCause := none, settled := false, gain := none, estimated := false }] }

/-- The purpose of the feed a grant creates: the segment index is the place the new entry takes (R91, R116). -/
def State.feedPurpose (s : State) (w : WaitPurpose) : FeedPurpose :=
  match w with
  | .unit tag => .unit tag
  | .batch l number => .batch l number ((((s.line l).current.map (fun bt => bt.segments.length)).getD 0) + 1)

/-- A grant of a bay to a node (R67); for a foam line the Batch Table is told (R91, R121). -/
def State.grant (s : State) (b : BayIx) (n : Node) (w : WaitPurpose) (g : GasClass) : State :=
  let s1 := s.createFeed b n (s.feedPurpose w) g
  match w with
  | .unit _ => s1
  | .batch l _ => s1.modCurrent l (·.openSegment b)

/-! ## The decision on a request (R88, R89) -/

/-- Some bay whose class accepts `g` is in FEEDING, CLOSING, SETTLING or HOLD (R88). -/
def State.mayWait (s : State) (g : GasClass) : Bool :=
  allBays.any (fun b => s.bayAccepts b g &&
    ((s.bay b).state == .feeding || (s.bay b).state == .closing || (s.bay b).state == .settling
      || (s.bay b).state == .hold))

/-- The request joins the tail of the list, and the requester's slot goes to DEFERRED (R89). -/
def State.joinWait (s : State) (n : Node) (tag : Nat) (k : ReqKind) (g : GasClass) (w : WaitPurpose) : State :=
  (s.setWaits (s.waits ++ [{ node := n, tag := tag, kind := k, cls := g, purpose := w,
                             deadline := s.now + 1000 * s.params.waitLimit }])).defer n tag k

/-- The Wait List's decision: grant, wait or NO_VESSEL (R88). -/
def State.decideFeed (s : State) (n : Node) (tag : Nat) (k : ReqKind) (g : GasClass) (w : WaitPurpose) : Taken :=
  match s.chooseVessel g with
  | some b => { state := s.grant b n w g, status := .ok, body := s.grantBody b }
  | none =>
    if s.mayWait g then { state := s.joinWait n tag k g w, status := .deferred } else refuse s .noVessel

/-- The Feed Controller's part of a feed request from the E-stop check on (R66, R119, R123). -/
def State.askFeed (s : State) (n : Node) (tag : Nat) (k : ReqKind) (g : GasClass) (w : WaitPurpose) : Taken :=
  if s.interlock.estop then refuse s .estop
  else if flammable g && !s.permitOn then refuse s .permitOff
  else s.decideFeed n tag k g w

/-! ## The grant scan (R90, R91) -/

/-- The bay can serve an entry: its class accepts the entry's gas, and the gas is allowed (R90). -/
def State.serves (s : State) (b : BayIx) (e : WaitEntry) : Bool := s.bayAccepts b e.cls && s.gasAllowed e.cls

/-- The scan of a bay that has entered READY: the oldest entry it can serve is granted (R90, R91). -/
def State.scan (s : State) (b : BayIx) : State :=
  match s.waits.find? (s.serves b) with
  | none => s
  | some e => ((s.dropEntry e.node).grant b e.node e.purpose e.cls).answerEntry e .ok (s.grantBody b)

/-- The READY or FULL decision, with the scan on READY and VESSEL_FULL counted on FULL (R26, R30). -/
def State.readyOrFull (s : State) (b : BayIx) : State :=
  if s.hasReserve b then (s.setBay b { s.bay b with state := .ready }).scan b
  else (s.setBay b { s.bay b with state := .full }).alarm .vesselFull (some b.val)

/-! ## Entries that leave without a grant (R92, R94-R96, R121) -/

/-- The Batch Table is told that a foam entry ended without a grant: the batch goes to STALLED (R121). -/
def State.stallWaiting (s : State) (w : WaitPurpose) : State :=
  match w with
  | .unit _ => s
  | .batch l _ => s.modCurrent l (fun bt => { bt with state := .stalled })

/-- An entry leaves the list, and its node's slot becomes DELIVERABLE with a status and no body (R92, R94, R96). -/
def State.endEntry (s : State) (e : WaitEntry) (st : Status) : State :=
  ((s.dropEntry e.node).answerEntry e st .none).stallWaiting e.purpose

/-- The purge of the entries a condition picks, in ascending address order (R96, R153). -/
def State.purge (s : State) (which : WaitEntry → Bool) (st : Status) : State :=
  allNodes.foldl (fun t n => match t.entry n with
    | some e => if which e then t.endEntry e st else t
    | none => t) s

end Sys2Proof.Machine
end

