-- ==== Sys2Proof/Machine/Booking.lean ====
section
/-! DEFINITION. The end of a feed, the booking of its gain, and the completion of batches (R10, R18, R28-R30, R59-R61,
R74, R80-R82, R113, R116, R122, R130). -/

namespace Sys2Proof.Machine

/-! ## Booking to a unit (R10, R104) -/

/-- A gain is booked to a unit: saturating sums, the estimated flag and the marks (R10). -/
def UnitRec.book (u : UnitRec) (g : GainResult) : UnitRec :=
  { u with
    recovered := min 999999 (u.recovered + g.gain)
    feedCount := min 255 (u.feedCount + 1)
    estimated := u.estimated || g.estimated
    marks := { u.marks with negGain := u.marks.negGain || g.clampedNegative, unstable := u.marks.unstable || g.unstable } }

/-! ## Completing a batch (R113, R130) -/

/-- Every segment is settled (R128). -/
def Batch.allSettled (bt : Batch) : Bool := bt.segments.all (·.settled)

/-- The marks of a yield against the limits (R112). -/
def yieldMarks (p : Params) (m : BatchMarks) (y : Option Nat) : BatchMarks :=
  match y with
  | none => m
  | some v => { m with yieldLow := m.yieldLow || decide (v < p.yieldLow), yieldHigh := m.yieldHigh || decide (p.yieldHigh < v) }

/-- The completed record: G, the shares or the unassigned mass, the yield and its marks, state SETTLED (R113, R130). -/
def Batch.complete (bt : Batch) (p : Params) : Batch :=
  let total := batchGain bt.segments
  let weights := bt.cabinets.map (·.weight)
  let shares := splitShares total weights
  let y := batchYield total weights
  { bt with
    state := .settled
    cabinets := List.zipWith (fun c sh => { c with share := some sh }) bt.cabinets shares
    total := some total
    unassigned := some (if bt.cabinets = [] then total else 0)
    yield := y
    marks := yieldMarks p bt.marks y }

/-- The shares are written to the cabinets' units, which go to CLOSED (R18). -/
def State.writeShares (s : State) (cs : List Cabinet) : State :=
  cs.foldl (fun t c => t.modUnit c.tag (fun u => { u with state := .closed, foamShare := c.share })) s

/-- The yield alarms of a completion, with the foam line as subject (R112). -/
def State.yieldAlarms (s : State) (l : FoamLine) (y : Option Nat) : State :=
  match y with
  | none => s
  | some v =>
    if v < s.params.yieldLow then s.alarm .yieldLow (some (lineNumber l))
    else if s.params.yieldHigh < v then s.alarm .yieldHigh (some (lineNumber l))
    else s

/-- The completion body of a settled batch (R130). -/
def Batch.completionBody (bt : Batch) : Body := .completion (bt.total.getD 0) bt.yield bt.cabinets.length

/-- The line's current batch completes in one step: figures, shares, yield, the move to the previous slot, and the
deferred FOAM_CLOSE reply (R130). -/
def State.completeBatch (s : State) (l : FoamLine) : State :=
  match (s.line l).current with
  | none => s
  | some bt =>
    let done := bt.complete s.params
    let s1 := (s.writeShares done.cabinets).yieldAlarms l done.yield
    let s2 := s1.setLine l { s1.line l with current := none, previous := some done }
    s2.releaseDeferred (nodeOfLine l) .foamClose done.completionBody

/-! ## Booking to a segment (R107, R116, R130) -/

/-- The gain is written into the segment of index `k`, and the batch marks are set (R107, R116). -/
def Batch.bookSegment (bt : Batch) (k : Nat) (g : GainResult) : Batch :=
  { bt with
    segments := modifyAt (fun x => { x with settled := true, gain := some g.gain, estimated := g.estimated }) bt.segments (k - 1)
    marks := { bt.marks with estimated := bt.marks.estimated || g.estimated, unstable := bt.marks.unstable || g.unstable } }

/-- A gain reaches the batch its feed names; a batch in CLOSING whose last segment it settles completes (R116, R130). -/
def State.bookToBatch (s : State) (l : FoamLine) (number k : Nat) (g : GainResult) : State :=
  match (s.line l).current with
  | none => s
  | some bt =>
    if bt.number = number then
      let s1 := s.modCurrent l (·.bookSegment k g)
      if bt.state = .closing ∧ (bt.bookSegment k g).allSettled then s1.completeBatch l else s1
    else s

/-! ## Booking a feed (R59, R80, R81, R103) -/

/-- A gain is booked to the record a feed's purpose names (R103). -/
def State.bookToRecord (s : State) (p : FeedPurpose) (g : GainResult) : State :=
  match p with
  | .unit tag => s.modUnit tag (·.book g)
  | .batch l number k => s.bookToBatch l number k g

/-- The booking of a feed's gain: the record, the feed's booked flag, the owner's feed-outcome field, and a deferred
FEED_CLOSE reply (R59, R80). -/
def State.bookGain (s : State) (b : BayIx) (f : Feed) (g : GainResult) : State :=
  let s1 := s.bookToRecord f.purpose g
  let s2 := s1.setFeed b (some { f with booked := true })
  let s3 := s2.modOutcome f.owner (fun o => { o with settled := true, gain := some g.gain, estimated := g.estimated })
  match (s3.node f.owner).outcome with
  | some o => s3.releaseDeferred f.owner .feedClose (.outcome o)
  | none => s3

/-- The bay's contents by the owner's flow: start net plus estimate, clamped to 1,000,000 g (R60, R81). -/
def Feed.bookFigure (f : Feed) : Nat := min 1000000 (f.startNet + f.estimate)

/-- A feed not yet booked is booked by estimate: weight kept becomes no, net and book take the book figure, weighed
becomes no, and the frozen estimate is the gain (R81, R82, R102). A booked feed is not booked again. -/
def State.bookByEstimate (s : State) (b : BayIx) : State :=
  match s.feed b with
  | none => s
  | some f =>
    if f.booked then s
    else
      let s1 := s.setBay b { s.bay b with net := f.bookFigure, book := f.bookFigure, source := .estimated }
      s1.bookGain b { f with weightKept := false } (estimatedGain f.estimate)

/-- A bay in CLOSING whose feed is booked by estimate and whose close watch has ended: the feed record is freed, and the
bay goes to HOLD, or to SETTLING where its channel is OK (R30, R81). -/
def State.leaveClosing (s : State) (b : BayIx) : State :=
  match s.feed b with
  | none => s
  | some f =>
    if f.booked ∧ (s.bay b).state = .closing ∧ (s.bay b).closeWatch = none then (s.setFeed b none).enterService b
    else s

/-! ## Settled readings (R26, R59, R61) -/

/-- The settled net: settled gross less tare, never below 0 (R26, R59). -/
def Bay.settledNet (r : Bay) (gross : Nat) : Nat := gross - (r.vessel.map (·.tare)).getD 0

/-- A settled net is taken into the bay: after an estimated booking it is reconciled against the book first, and then
net and book take it and weighed becomes yes (R26, R61). -/
def State.takeSettledNet (s : State) (b : BayIx) (net : Nat) : State :=
  let r := s.bay b
  if r.source = .estimated then
    let gap : Int := (net : Int) - (r.book : Int)
    ((s.setBay b { r with unreconciled := gap, net := net, book := net, source := .settled }).alarm .channelRestored
      (some b.val) gap)
  else s.setBay b { r with net := net, book := net, source := .settled }

/-- A BASELINE reading on a SETTLING bay (R26, R59, R61). -/
def State.deliverBaseline (s : State) (b : BayIx) (gross : Nat) : State :=
  if (s.bay b).state = .settling then (s.takeSettledNet b ((s.bay b).settledNet gross)).readyOrFull b else s

/-- A FEED_END reading completes the feed of a CLOSING bay by weight: gain, booking, outcome, close reply, feed freed,
READY or FULL (R30, R59, R80, R100, R101). -/
def State.deliverFeedEnd (s : State) (b : BayIx) (gross : Nat) (unstable : Bool) : State :=
  match s.feed b with
  | none => s
  | some f =>
    if f.booked ∨ (s.bay b).state ≠ .closing then s
    else
      let net := (s.bay b).settledNet gross
      let g := weighedGain f.startNet net unstable
      let s1 := s.takeSettledNet b net
      let s2 := if g.clampedNegative then s1.alarm .negativeGain (some b.val) else s1
      ((s2.bookGain b f g).setFeed b none).readyOrFull b

/-! ## The end of a feed (R74) -/

/-- The alarm of an end cause, with the owner's address as subject (R74, step 5). -/
def State.endAlarm (s : State) (n : Node) (c : EndCause) : State :=
  match c with
  | .abandoned => s.alarm .feedAbandoned (some (nodeAddr n))
  | .interlock => s.alarm .feedInterlock (some (nodeAddr n))
  | _ => s

/-- The end cause is written into a segment, and the batch stalls unless the cause is CLOSED (R122). -/
def Batch.endSegment (bt : Batch) (k : Nat) (c : EndCause) : Batch :=
  { bt with
    segments := modifyAt (fun x => { x with endCause := some c }) bt.segments (k - 1)
    state := if c = .closed then bt.state else .stalled }

/-- The Batch Table is told of the end of a feed of its line (R74, step 6; R122). -/
def State.endOfSegment (s : State) (p : FeedPurpose) (c : EndCause) : State :=
  match p with
  | .unit _ => s
  | .batch l number k => s.modCurrent l (fun bt => if bt.number = number then bt.endSegment k c else bt)

/-- The close command on a bay: the valve is commanded closed, the bay goes to CLOSING, and the close watch starts with
2 s, or is confirmed at once where the switch already reads closed (R28, R74, step 3). -/
def State.closeBay (s : State) (b : BayIx) : State :=
  (s.setValve b false).setBay b { s.bay b with
    state := .closing, closeWatch := if s.switch b then none else some (s.now + 2000) }

/-- The feed part of the end: cause, no hold deadline, CLOSING (R74, steps 1 and 2). -/
def Feed.ended (f : Feed) (c : EndCause) : Feed :=
  { f with endCause := some c, holdDeadline := none, state := .closing }

/-- A feed in FEEDING ends with a cause, in one step (R74). Where the bay cannot be weighed the result is booked by
estimate at once (R81); where it can and the switch already reads closed, the FEED_END window opens (R28). A feed that
is not in FEEDING is not ended again (R76). -/
def State.endFeed (s : State) (b : BayIx) (c : EndCause) : State :=
  match s.feed b with
  | none => s
  | some f =>
    if f.state = .feeding then
      let s1 := (s.setFeed b (some (f.ended c))).closeBay b
      let s2 := s1.modOutcome f.owner (fun o => { o with endCause := some c, settled := false })
      let s3 := (s2.endAlarm f.owner c).endOfSegment f.purpose c
      if (s3.channel b).state = .ok then
        if (s3.bay b).closeWatch = none then s3.openWindow b .feedEnd else s3
      else (s3.bookByEstimate b).leaveClosing b
    else s

end Sys2Proof.Machine
end

