-- ==== Sys2Proof/Machine/Interlocks.lean ====
section
/-! DEFINITION. PERMIT, the E-stop and gas-detection inputs, permit drops and rises (Chapter 8). -/

namespace Sys2Proof.Machine

/-- The feeds in FEEDING that a condition on the gas class picks are ended with a cause, in ascending owner address
(R138, R142). Where a step counts FEED_INTERLOCK more than once, the highest subject is kept (R176): it comes last. -/
def State.endFeeds (s : State) (which : GasClass → Bool) (c : EndCause) : State :=
  allNodes.foldl (fun t n => match t.ownedFeed n with
    | some (b, f) => if which f.cls then t.endFeed b c else t
    | none => t) s

/-- A permit drop: flammable feeds end INTERLOCK, flammable entries are purged with PERMIT_OFF, and PERMIT_DROPPED is
counted once (R138). -/
def State.dropPermit (s : State) : State :=
  ((s.endFeeds flammable .interlock).purge (fun e => flammable e.cls) .permitOff).alarm .permitDropped none

/-- The interlock items take new values, and the permit is yielded afresh: ON to OFF is a drop; a rise changes the
permit and does nothing more (R136, R138, R140). -/
def State.setInterlock (s : State) (i : Interlock) : State :=
  let s1 := { s with interlock := i }
  if s.permitOn && !s1.permitOn then s1.dropPermit else s1

/-- The interlock body: permit, flag, gas-healthy, E-stop (R137). -/
def State.interlockBody (s : State) : Body :=
  .interlock s.permitOn s.interlock.flag s.interlock.healthy s.interlock.estop

/-- PERMIT at the Interlock Unit (R137). -/
def ownPermit (value : Nat) (s : State) : Taken :=
  if 1 < value then refuse s .badArgument
  else
    let s1 := s.setInterlock { s.interlock with flag := value == 1 }
    { state := s1, status := .ok, body := s1.interlockBody }

/-- The assertion of the E-stop: every feed in FEEDING ends ESTOP, every entry is purged with ESTOP, and ESTOP_ON is
counted once (R142). A level that is the same as before is not an event (R136). -/
def assertEstop (s : State) : State :=
  if s.interlock.estop then s
  else
    let s1 := { s with interlock := { s.interlock with estop := true } }
    ((s1.endFeeds (fun _ => true) .estop).purge (fun _ => true) .estop).alarm .estopOn none

/-- The level of the E-stop input alone. -/
def State.estopLevel (s : State) (asserted : Bool) : State :=
  { s with interlock := { s.interlock with estop := asserted } }

/-- The level of the gas-detection input alone. -/
def State.healthyLevel (s : State) (healthy : Bool) : State :=
  { s with interlock := { s.interlock with healthy := healthy } }

def takePermit (n : Node) (tag value : Nat) : State → State := take n tag .permit (ownPermit value)

/-! ## The meanings: under reset an input's level alone changes, and it is read afresh at the release (R136, R146) -/

/-- PERMIT (R137, R138, R140). -/
def execPermit (n : Node) (tag value : Nat) (s : State) : Host.Outcome State Fault Refusal := live (takePermit n tag value) s

/-- ESTOP_ASSERT (R142). -/
def execEstopAssert (s : State) : Host.Outcome State Fault Refusal :=
  .next (if s.inReset then s.estopLevel true else assertEstop s)

/-- ESTOP_RELEASE: only the E-stop item changes (R144). -/
def execEstopRelease (s : State) : Host.Outcome State Fault Refusal := .next (s.estopLevel false)

/-- GAS_NOT_HEALTHY (R136, R138). -/
def execGasNotHealthy (s : State) : Host.Outcome State Fault Refusal :=
  .next (if s.inReset then s.healthyLevel false else s.setInterlock { s.interlock with healthy := false })

/-- GAS_HEALTHY (R136, R140). -/
def execGasHealthy (s : State) : Host.Outcome State Fault Refusal :=
  .next (if s.inReset then s.healthyLevel true else s.setInterlock { s.interlock with healthy := true })

end Sys2Proof.Machine
end

