-- ==== Sys2Proof/Machine/Feeds.lean ====
section
/-! DEFINITION. The feed requests FEED_OPEN, FEED_PROGRESS, FEED_CLOSE, FEED_CANCEL, FEED_OUTCOME, and the passing of
hold and wait deadlines (Chapters 4 and 5). -/

namespace Sys2Proof.Machine

/-- The answer to a request about a feed that is not FEEDING: FEED_ENDED with the feed-outcome field where it is
present, NO_FEED where it is absent (R71, R78). -/
def endedAnswer (s : State) (n : Node) : Taken :=
  match (s.node n).outcome with
  | some o => { state := s, status := .feedEnded, body := .outcome o }
  | none => refuse s .noFeed

/-- The feed a node owns in FEEDING, with its bay. -/
def State.runningFeed (s : State) (n : Node) : Option (BayIx × Feed) :=
  match s.ownedFeed n with
  | some (b, f) => if f.state = .feeding then some (b, f) else none
  | none => none

/-! ## FEED_OPEN (R66) -/

/-- FEED_OPEN at the Feed Controller (R66). The class is the bound unit's identified refrigerant class, which every
unit in DEGASSING has (R8). -/
def ownFeedOpen (n : Node) (tag : Nat) (s : State) : Taken :=
  match s.boundUnit n with
  | none => refuse s .noUnit
  | some u =>
    if (s.ownedBay n).isSome then refuse s .feedActive
    else if (s.node n).slot ≠ .empty then refuse s .slotBusy
    else match u.identRefr with
      | none => refuse s .noUnit
      | some g => s.askFeed n tag .feedOpen g (.unit u.tag)

/-! ## FEED_PROGRESS (R69, R70, R71) -/

/-- Live net of one sample: its gross less the tare, never below 0 (R51). -/
def State.liveNet (s : State) (b : BayIx) : Nat :=
  (s.channel b).lastGross - (((s.bay b).vessel.map (·.tare)).getD 0)

/-- The feed is in estimate mode: FEEDING while its bay's channel cannot be weighed (R60). -/
def State.estimateMode (s : State) (b : BayIx) : Bool := (s.channel b).state != .ok

/-- Live headroom in units of 10 g, truncated and saturated at 65,535: from the book in estimate mode, from the last
valid sample otherwise (R69). -/
def State.liveHeadroom10 (s : State) (b : BayIx) : Nat :=
  let m := ((s.bay b).maxFill).getD 0
  min 65535 ((m - (if s.estimateMode b then (s.bay b).book else s.liveNet b)) / 10)

/-- A new flow estimate of a running feed: the estimate, and in estimate mode the book worked out from it (R60, R69). -/
def State.storeEstimate (s : State) (b : BayIx) (f : Feed) : State :=
  let s1 := s.setFeed b (some f)
  if s.estimateMode b then s1.setBay b { s1.bay b with book := f.bookFigure } else s1

/-- The book has reached max fill (R70). -/
def State.bookFull (s : State) (b : BayIx) : Bool := decide (((s.bay b).maxFill).getD 0 ≤ (s.bay b).book)

/-- FEED_PROGRESS at the Feed Controller (R69, R70, R71). -/
def ownFeedProgress (n : Node) (flow : Nat) (s : State) : Taken :=
  match s.runningFeed n with
  | none => endedAnswer s n
  | some (b, f) =>
    let s1 := s.storeEstimate b
      { f with estimate := 10 * flow, holdDeadline := some (s.now + 1000 * s.params.holdTime) }
    if s1.estimateMode b && s1.bookFull b then endedAnswer (s1.endFeed b .full) n
    else { state := s1, status := .ok, body := .progress (s1.liveHeadroom10 b) (s1.estimateMode b) }

/-! ## FEED_CLOSE (R77, R78) -/

/-- The feed-outcome body of a node, none where the field is absent. -/
def State.outcomeBody (s : State) (n : Node) : Body :=
  match (s.node n).outcome with
  | some o => .outcome o
  | none => .none

/-- FEED_CLOSE at the Feed Controller (R77, R78). -/
def ownFeedClose (n : Node) (tag flow : Nat) (s : State) : Taken :=
  match s.runningFeed n with
  | none =>
    if (s.ownedBay n).isNone ∧ (s.entry n).isSome then refuse s .wrongState else endedAnswer s n
  | some (b, f) =>
    let closed := (s.storeEstimate b { f with estimate := 10 * flow }).endFeed b .closed
    if s.estimateMode b then { state := closed, status := .ok, body := closed.outcomeBody n }
    else if (s.node n).slot = .empty then { state := closed.defer n tag .feedClose, status := .deferred }
    else refuse s .slotBusy

/-! ## FEED_CANCEL, FEED_OUTCOME (R79, R94) -/

/-- FEED_CANCEL at the Wait List (R94). -/
def ownFeedCancel (n : Node) (s : State) : Taken :=
  match s.entry n with
  | none => refuse s .noFeed
  | some e => { state := s.endEntry e .withdrawn, status := .ok }

/-- FEED_OUTCOME (R79). -/
def ownFeedOutcome (n : Node) (s : State) : Taken :=
  match (s.node n).outcome with
  | some o => { state := s, status := .ok, body := .outcome o }
  | none => refuse s .noFeed

/-! ## Deadlines (R72, R92) -/

/-- The passing of a hold deadline: a FEEDING feed whose deadline has passed ends ABANDONED; one whose deadline has
moved ahead, or a feed in CLOSING, is not touched (R72). -/
def passHold (b : BayIx) (arrival : Nat) (s : State) : State :=
  let s1 := s.advance arrival
  match s1.feed b with
  | none => s1
  | some f => if s1.passed f.holdDeadline then s1.endFeed b .abandoned else s1

/-- The passing of a wait deadline: the entry leaves with WAIT_EXPIRED, the alarm is counted, and a foam batch stalls
(R92). -/
def passWait (n : Node) (arrival : Nat) (s : State) : State :=
  let s1 := s.advance arrival
  match s1.entry n with
  | none => s1
  | some e =>
    if s1.passed (some e.deadline) then (s1.endEntry e .waitExpired).alarm .waitExpired (some (nodeAddr n)) else s1

/-! ## The requests as taken by the Node Table -/

def takeFeedOpen (n : Node) (tag : Nat) : State → State := take n tag .feedOpen (ownFeedOpen n tag)
def takeFeedProgress (n : Node) (tag flow : Nat) : State → State := take n tag .feedProgress (ownFeedProgress n flow)
def takeFeedClose (n : Node) (tag flow : Nat) : State → State := take n tag .feedClose (ownFeedClose n tag flow)
def takeFeedCancel (n : Node) (tag : Nat) : State → State := take n tag .feedCancel (ownFeedCancel n)
def takeFeedOutcome (n : Node) (tag : Nat) : State → State := take n tag .feedOutcome (ownFeedOutcome n)

/-! ## The meanings -/

/-- FEED_OPEN (R66). -/
def execFeedOpen (n : Node) (tag : Nat) (s : State) : Host.Outcome State Fault Refusal := live (takeFeedOpen n tag) s

/-- FEED_PROGRESS (R69, R70, R71). -/
def execFeedProgress (n : Node) (tag flow : Nat) (s : State) : Host.Outcome State Fault Refusal :=
  live (takeFeedProgress n tag flow) s

/-- FEED_CLOSE (R77, R78). -/
def execFeedClose (n : Node) (tag flow : Nat) (s : State) : Host.Outcome State Fault Refusal :=
  live (takeFeedClose n tag flow) s

/-- FEED_CANCEL (R94). -/
def execFeedCancel (n : Node) (tag : Nat) (s : State) : Host.Outcome State Fault Refusal := live (takeFeedCancel n tag) s

/-- FEED_OUTCOME (R79). -/
def execFeedOutcome (n : Node) (tag : Nat) (s : State) : Host.Outcome State Fault Refusal := live (takeFeedOutcome n tag) s

/-- HOLD_DEADLINE (R72). -/
def execHoldDeadline (b : BayIx) (arrival : Nat) (s : State) : Host.Outcome State Fault Refusal := live (passHold b arrival) s

/-- WAIT_DEADLINE (R92). -/
def execWaitDeadline (n : Node) (arrival : Nat) (s : State) : Host.Outcome State Fault Refusal := live (passWait n arrival) s

end Sys2Proof.Machine
end

