-- ==== Sys2Proof/Machine/Batches.lean ====
section
/-! DEFINITION. The batch requests: FOAM_OPEN, FOAM_RESUME, CABINET_ADMIT, FOAM_CLOSE, BATCH_QUERY, SET_EXPECT
(Chapter 7). -/

namespace Sys2Proof.Machine

/-! ## FOAM_OPEN and FOAM_RESUME (R119, R120, R123) -/

/-- The batch number after the last one: 1 follows 65,535 (R114). -/
def nextBatchNumber (last : Nat) : Nat := if last ≥ 65535 then 1 else last + 1

/-- The batch a FOAM_OPEN creates, in STALLED until the request has its answer (R119, R120). -/
def newBatch (l : FoamLine) (number : Nat) (g : GasClass) : Batch :=
  { line := l, number := number, cls := g, state := .stalled, cabinets := [], segments := [], total := none
    unassigned := none, yield := none, marks := { } }

/-- The batch of a line asks for a feed: OPEN on a grant (the grant makes it so), WAITING_FEED where the request
waits, STALLED on any refusal (R120, R123). -/
def askForBatch (s : State) (n : Node) (tag : Nat) (k : ReqKind) (l : FoamLine) (bt : Batch) : Taken :=
  let r := s.askFeed n tag k bt.cls (.batch l bt.number)
  if r.status = .deferred then
    { r with state := r.state.modCurrent l (fun b => { b with state := .waitingFeed }) }
  else r

/-- FOAM_OPEN at the Batch Table (R119, R120). -/
def ownFoamOpen (n : Node) (tag cls : Nat) (s : State) : Taken :=
  match classOfCode cls, lineOfNode n with
  | none, _ => refuse s .badArgument
  | some _, none => refuse s .notPermitted
  | some g, some l =>
    if (s.line l).current.isSome then refuse s .wrongState
    else if (s.ownedBay n).isSome then refuse s .feedActive
    else if (s.node n).slot ≠ .empty then refuse s .slotBusy
    else
      let number := nextBatchNumber (s.line l).lastNumber
      let bt := newBatch l number g
      askForBatch (s.setLine l { s.line l with current := some bt, lastNumber := number }) n tag .foamOpen l bt

/-- FOAM_RESUME at the Batch Table (R123). -/
def ownFoamResume (n : Node) (tag : Nat) (s : State) : Taken :=
  match lineOfNode n with
  | none => refuse s .notPermitted
  | some l =>
    match (s.line l).current with
    | none => refuse s .wrongState
    | some bt =>
      if bt.state ≠ .stalled then refuse s .wrongState
      else if bt.segments.length ≥ 4 then refuse s .segmentLimit
      else if (s.ownedBay n).isSome then refuse s .feedActive
      else if (s.node n).slot ≠ .empty then refuse s .slotBusy
      else askForBatch s n tag .foamResume l bt

/-! ## CABINET_ADMIT (R17, R124, R125) -/

/-- The admission written into the unit record (R17). -/
def admittedUnit (u : UnitRec) (l : FoamLine) (number : Nat) (g : GasClass) (weight : Nat) (mismatch : Bool) : UnitRec :=
  { u with state := .inBatch, identFoam := some g, batch := some (l, number), foamWeight := some weight
           marks := { u.marks with foamMismatch := u.marks.foamMismatch || mismatch } }

/-- CABINET_ADMIT at the Batch Table (R124, R125, R17). -/
def ownCabinetAdmit (n : Node) (unit cls : Nat) (s : State) : Taken :=
  match classOfCode cls, lineOfNode n with
  | none, _ => refuse s .badArgument
  | some _, none => refuse s .notPermitted
  | some g, some l =>
    if !tagInRange unit then refuse s .badArgument
    else match (s.line l).current with
      | none => refuse s .wrongState
      | some bt =>
        if bt.state ≠ .opened then refuse s .wrongState
        else match s.unit? unit with
          | none => refuse s .noUnit
          | some u =>
            if u.state ≠ .degassed then refuse s .wrongState
            else if bt.cls ≠ .mx ∧ bt.cls ≠ g then refuse s .classMismatch
            else if bt.cabinets.length ≥ 24 then refuse s .batchFull
            else
              let weight := s.batches.expect[expectIx u.category g]
              let mismatch : Bool := match u.declFoam with
                | some d => d != g
                | none => false
              let s1 := s.modCurrent l (fun b => { b with
                cabinets := b.cabinets ++ [{ tag := unit, weight := weight, share := none }] })
              let s2 := s1.modUnit unit (fun v => admittedUnit v l bt.number g weight mismatch)
              { state := if mismatch then s2.alarm .foamMismatch (some unit) else s2
                status := .ok
                body := .admitted weight (bt.cabinets.length + 1) }

/-! ## FOAM_CLOSE (R95, R126 to R129) -/

/-- The completion body of the batch a line completed last. -/
def State.settledBody (s : State) (l : FoamLine) : Body :=
  match (s.line l).previous with
  | some bt => bt.completionBody
  | none => .none

/-- The batch completes in the step of the FOAM_CLOSE, which is answered OK with the completion body (R128, R130). -/
def completeNow (s : State) (l : FoamLine) : Taken :=
  { state := s.completeBatch l, status := .ok, body := (s.completeBatch l).settledBody l }

/-- FOAM_CLOSE on a STALLED batch: by whether it has an unsettled segment, and then by the slot (R128). -/
def closeStalled (n : Node) (tag : Nat) (l : FoamLine) (bt : Batch) (s : State) : Taken :=
  if bt.allSettled then completeNow s l
  else if (s.node n).slot = .empty then
    { state := (s.modCurrent l (fun b => { b with state := .closing })).defer n tag .foamClose, status := .deferred }
  else refuse s .slotBusy

/-- FOAM_CLOSE on an OPEN batch whose feed runs into bay `b`: by the bay's channel, and then by the slot (R127). -/
def closeOpen (n : Node) (tag : Nat) (l : FoamLine) (b : BayIx) (s : State) : Taken :=
  let closed := (s.modCurrent l (fun x => { x with state := .closing })).endFeed b .closed
  if s.estimateMode b then { state := closed, status := .ok, body := closed.settledBody l }
  else if (s.node n).slot = .empty then { state := closed.defer n tag .foamClose, status := .deferred }
  else refuse s .slotBusy

/-- FOAM_CLOSE at the Batch Table (R126 to R129). -/
def ownFoamClose (n : Node) (tag : Nat) (s : State) : Taken :=
  match lineOfNode n with
  | none => refuse s .notPermitted
  | some l =>
    match (s.line l).current with
    | none => refuse s .wrongState
    | some bt =>
      match bt.state with
      | .closing => refuse s .wrongState
      | .settled => refuse s .wrongState
      | .stalled => closeStalled n tag l bt s
      | .waitingFeed =>
        match s.entry n with
        | some e => closeStalled n tag l bt (s.endEntry e .withdrawn)
        | none => closeStalled n tag l bt s
      | .opened =>
        match s.runningFeed n with
        | some (b, _) => closeOpen n tag l b s
        | none => closeStalled n tag l bt s

/-! ## BATCH_QUERY, SET_EXPECT (R132, R134) -/

/-- BATCH_QUERY at the Batch Table (R132). -/
def ownBatchQuery (line slot : Nat) (s : State) : Taken :=
  match lineOfArg line with
  | none => refuse s .badArgument
  | some l =>
    if slot = 0 then { state := s, status := .ok, body := .batch l 0 (s.line l).lastNumber (s.line l).current }
    else if slot = 1 then { state := s, status := .ok, body := .batch l 1 (s.line l).lastNumber (s.line l).previous }
    else refuse s .badArgument

/-- The status and body of a value that was applied, clamped or not (R134, R171, R178). -/
def appliedAnswer (s : State) (sent used : Nat) : Taken :=
  { state := s, status := if sent = used then .ok else .clamped, body := .applied used }

/-- SET_EXPECT at the Batch Table (R134). -/
def ownSetExpect (category cls grams : Nat) (s : State) : Taken :=
  match categoryOfCode category, classOfCode cls with
  | some cat, some g =>
    let used := clamp 1 9999 grams
    appliedAnswer { s with batches := { s.batches with expect := s.batches.expect.set (expectIx cat g) used } } grams used
  | _, _ => refuse s .badArgument

/-! ## The requests as taken by the Node Table -/

def takeFoamOpen (n : Node) (tag cls : Nat) : State → State := take n tag .foamOpen (ownFoamOpen n tag cls)
def takeFoamResume (n : Node) (tag : Nat) : State → State := take n tag .foamResume (ownFoamResume n tag)
def takeFoamClose (n : Node) (tag : Nat) : State → State := take n tag .foamClose (ownFoamClose n tag)
def takeCabinetAdmit (n : Node) (tag unit cls : Nat) : State → State :=
  take n tag .cabinetAdmit (ownCabinetAdmit n unit cls)
def takeBatchQuery (n : Node) (tag line slot : Nat) : State → State := take n tag .batchQuery (ownBatchQuery line slot)
def takeSetExpect (n : Node) (tag category cls grams : Nat) : State → State :=
  take n tag .setExpect (ownSetExpect category cls grams)

/-! ## The meanings -/

/-- FOAM_OPEN (R119, R120). -/
def execFoamOpen (n : Node) (tag cls : Nat) (s : State) : Host.Outcome State Fault Refusal := live (takeFoamOpen n tag cls) s

/-- FOAM_RESUME (R123). -/
def execFoamResume (n : Node) (tag : Nat) (s : State) : Host.Outcome State Fault Refusal := live (takeFoamResume n tag) s

/-- FOAM_CLOSE (R126 to R130). -/
def execFoamClose (n : Node) (tag : Nat) (s : State) : Host.Outcome State Fault Refusal := live (takeFoamClose n tag) s

/-- CABINET_ADMIT (R124, R125, R17). -/
def execCabinetAdmit (n : Node) (tag unit cls : Nat) (s : State) : Host.Outcome State Fault Refusal :=
  live (takeCabinetAdmit n tag unit cls) s

/-- BATCH_QUERY (R132). -/
def execBatchQuery (n : Node) (tag line slot : Nat) (s : State) : Host.Outcome State Fault Refusal :=
  live (takeBatchQuery n tag line slot) s

/-- SET_EXPECT (R134). -/
def execSetExpect (n : Node) (tag category cls grams : Nat) (s : State) : Host.Outcome State Fault Refusal :=
  live (takeSetExpect n tag category cls grams) s

end Sys2Proof.Machine
end

