-- ==== Sys2Proof/Machine/Nodes.lean ====
section
/-! DEFINITION. The link requests REPLY_LIMIT, LINK_STATS, LINK_OPTIONS, SET_DIGEST, and the settings ALARM_READ and
SET_PARAM (Chapter 10, R43). -/

namespace Sys2Proof.Machine

/-! ## Link requests (R171, R172, R174) -/

/-- REPLY_LIMIT at the Node Table (R171). -/
def ownReplyLimit (n : Node) (bytes : Nat) (s : State) : Taken :=
  let used := clamp 48 512 bytes
  appliedAnswer (s.setNode n { s.node n with replyLimit := used }) bytes used

/-- LINK_OPTIONS at the Node Table: bit 0 burst halt, bit 1 fixed length, other bits ignored (R163, R171). -/
def ownLinkOptions (n : Node) (options : Nat) (s : State) : Taken :=
  { state := s.setNode n { s.node n with burstHalt := options.testBit 0, fixedLength := options.testBit 1 }
    status := .ok }

/-- LINK_STATS at the Node Table: the counter and flag as they stood, then both cleared (R172). -/
def ownLinkStats (n : Node) (addr : Nat) (s : State) : Taken :=
  match nodeOfAddr addr with
  | none => refuse s .badArgument
  | some m =>
    if roleOf n ≠ .supervisory ∧ m ≠ n then refuse s .owner
    else
      { state := s.setNode m { s.node m with errCount := 0, saturated := false }
        status := .ok
        body := .linkStats m (s.node m).errCount (s.node m).saturated }

/-- A digest list in range: at most 12 items, each in range, no two the same (R174). -/
def digestOk (items : List (Nat × Nat)) : Bool :=
  decide (items.length ≤ 12) && items.all digestItemOk && decide items.Nodup

/-- SET_DIGEST at the Node Table (R174). -/
def ownSetDigest (n : Node) (items : List (Nat × Nat)) (s : State) : Taken :=
  if digestOk items then { state := s.setNode n { s.node n with digest := items, cursor := 0 }, status := .ok }
  else refuse s .badArgument

/-! ## ALARM_READ (R177) -/

/-- The rows of a group as they stand (R177). -/
def AlarmSet.rows (a : AlarmSet) (g : Fin 4) : List (AlarmKind × Alarm) :=
  (kindsOfGroup g).map (fun k => (k, a.recs[alarmIx k]))

/-- ALARM_READ at the Alarm Set: the group as it stood, then the group cleared (R177). -/
def ownAlarmRead (group : Nat) (s : State) : Taken :=
  if h : 1 ≤ group ∧ group ≤ 4 then
    let g : Fin 4 := ⟨group - 1, by omega⟩
    { state := { s with alarms := s.alarms.clearGroup g }, status := .ok, body := .alarmGroup g (s.alarms.rows g) }
  else refuse s .badArgument

/-! ## SET_PARAM and the grant reserve (R43, R178) -/

/-- One bay under a new reserve: READY below it goes to FULL with VESSEL_FULL counted; FULL at or above it with the
channel OK goes to READY (R43). -/
def State.reviewBay (s : State) (b : BayIx) : State :=
  match (s.bay b).state with
  | .ready =>
    if s.hasReserve b then s else (s.setBay b { s.bay b with state := .full }).alarm .vesselFull (some b.val)
  | .full =>
    if s.hasReserve b && (s.channel b).state == .ok then s.setBay b { s.bay b with state := .ready } else s
  | _ => s

/-- The bays that a re-evaluation takes from FULL to READY, in ascending number (R43). -/
def State.risingBays (s : State) : List BayIx :=
  allBays.filter (fun b => (s.bay b).state == .full && s.hasReserve b && (s.channel b).state == .ok)

/-- The re-evaluation of every READY and FULL bay, and then the grant scans of the bays that went to READY, in
ascending bay number (R43). -/
def State.reviewReserve (s : State) : State :=
  s.risingBays.foldl State.scan (allBays.foldl State.reviewBay s)

/-- A parameter takes a value; the grant reserve is re-evaluated at once (R178, R43). -/
def State.applyParam (s : State) (id v : Nat) : State :=
  let s1 := { s with params := s.params.setId id v }
  if id = 4 then s1.reviewReserve else s1

/-- SET_PARAM at the Parameter Set (R178). -/
def ownSetParam (id value : Nat) (s : State) : Taken :=
  match paramRange id with
  | none => refuse s .badArgument
  | some (lo, hi) =>
    let used := clamp lo hi value
    appliedAnswer (s.applyParam id used) value used

/-! ## The requests as taken by the Node Table -/

def takeReplyLimit (n : Node) (tag bytes : Nat) : State → State := take n tag .replyLimit (ownReplyLimit n bytes)
def takeLinkStats (n : Node) (tag addr : Nat) : State → State := take n tag .linkStats (ownLinkStats n addr)
def takeLinkOptions (n : Node) (tag options : Nat) : State → State := take n tag .linkOptions (ownLinkOptions n options)
def takeSetDigest (n : Node) (tag : Nat) (items : List (Nat × Nat)) : State → State :=
  take n tag .setDigest (ownSetDigest n items)
def takeAlarmRead (n : Node) (tag group : Nat) : State → State := take n tag .alarmRead (ownAlarmRead group)
def takeSetParam (n : Node) (tag id value : Nat) : State → State := take n tag .setParam (ownSetParam id value)

/-! ## The meanings -/

/-- REPLY_LIMIT (R171). -/
def execReplyLimit (n : Node) (tag bytes : Nat) (s : State) : Host.Outcome State Fault Refusal :=
  live (takeReplyLimit n tag bytes) s

/-- LINK_STATS (R172). -/
def execLinkStats (n : Node) (tag addr : Nat) (s : State) : Host.Outcome State Fault Refusal :=
  live (takeLinkStats n tag addr) s

/-- LINK_OPTIONS (R171). -/
def execLinkOptions (n : Node) (tag options : Nat) (s : State) : Host.Outcome State Fault Refusal :=
  live (takeLinkOptions n tag options) s

/-- SET_DIGEST (R174). -/
def execSetDigest (n : Node) (tag : Nat) (items : List (Nat × Nat)) (s : State) : Host.Outcome State Fault Refusal :=
  live (takeSetDigest n tag items) s

/-- ALARM_READ (R177). -/
def execAlarmRead (n : Node) (tag group : Nat) (s : State) : Host.Outcome State Fault Refusal :=
  live (takeAlarmRead n tag group) s

/-- SET_PARAM (R178, R43). -/
def execSetParam (n : Node) (tag id value : Nat) (s : State) : Host.Outcome State Fault Refusal :=
  live (takeSetParam n tag id value) s

end Sys2Proof.Machine
end

