-- ==== Sys2Proof/Machine/Units.lean ====
section
/-! DEFINITION. The unit requests: ANNOUNCE, DEGAS_BEGIN, DEGAS_END, UNIT_QUERY, UNIT_RELEASE (Chapter 1). -/

namespace Sys2Proof.Machine

/-- A declared class of ANNOUNCE is absent (0) or a class (R4, R163). -/
def declClassOk (c : Nat) : Bool := c == 0 || (classOfCode c).isSome

/-- A declared charge is absent (0) or 1 to 5,000 g (R4, R163). -/
def declChargeOk (c : Nat) : Bool := decide (c ≤ 5000)

/-- The record an ANNOUNCE creates (R5). -/
def newUnit (unit : Nat) (cat : Category) (refr charge foam : Nat) : UnitRec :=
  { tag := unit, state := .announced, category := cat, declRefr := classOfCode refr
    declCharge := if charge = 0 then none else some charge, declFoam := classOfCode foam, identRefr := none
    station := none, recovered := 0, feedCount := 0, estimated := false, abortCount := 0, outcome := none, ratio := none
    marks := { }, identFoam := none, batch := none, foamWeight := none, foamShare := none }

/-- ANNOUNCE at the Unit Table (R4, R5, R6). -/
def ownAnnounce (unit category refr charge foam : Nat) (s : State) : Taken :=
  match categoryOfCode category with
  | none => refuse s .badArgument
  | some cat =>
    if !tagInRange unit || !declClassOk refr || !declChargeOk charge || !declClassOk foam then refuse s .badArgument
    else if (s.unit? unit).isSome then refuse s .duplicate
    else if s.units.length ≥ 96 then refuse (s.alarm .tableFull (some unit)) .tableFull
    else { state := s.setUnits (s.units ++ [newUnit unit cat refr charge foam]), status := .ok }

/-- DEGAS_BEGIN at the Unit Table (R7, R8, R9). -/
def ownDegasBegin (n : Node) (unit cls : Nat) (s : State) : Taken :=
  match classOfCode cls with
  | none => refuse s .badArgument
  | some g =>
    if !tagInRange unit then refuse s .badArgument
    else match s.unit? unit with
      | none => refuse s .noUnit
      | some u =>
        if (s.boundUnit n).isSome ∨ u.state ≠ .announced then refuse s .wrongState
        else
          let mismatch : Bool := match u.declRefr with
            | some d => d != g
            | none => false
          let s1 := s.modUnit unit (fun v => { v with
            state := .degassing, station := some n, identRefr := some g,
            marks := { v.marks with classMismatch := v.marks.classMismatch || mismatch } })
          { state := if mismatch then s1.alarm .classMismatch (some unit) else s1, status := .ok }

/-- The recovery check of a unit entering DEGASSED with outcome COMPLETE: the ratio and whether it is short (R13). -/
def recoveryCheck (s : State) (u : UnitRec) : Option Nat × Bool :=
  match u.declCharge with
  | none => (none, false)
  | some c => (some (recoveryRatio u.recovered c), decide (recoveryRatio u.recovered c < s.params.minRecovery))

/-- The record of a unit ended COMPLETE (R12, R13). -/
def completedUnit (s : State) (u : UnitRec) : UnitRec :=
  { u with state := .degassed, outcome := some .complete, station := none, ratio := (recoveryCheck s u).1
           marks := { u.marks with short := u.marks.short || (recoveryCheck s u).2 } }

/-- The record of a unit ended NO_CHARGE (R14). -/
def emptyUnit (u : UnitRec) : UnitRec :=
  { u with state := .degassed, outcome := some .noCharge, station := none, marks := { u.marks with empty := true } }

/-- The record of a unit ended ABORTED (R15). -/
def abortedUnit (u : UnitRec) : UnitRec :=
  { u with state := .announced, station := none, abortCount := min 15 (u.abortCount + 1) }

/-- The degas result body (R16). -/
def degasBody (a : DegasApplied) (u : UnitRec) : Body := .degas a u.recovered u.feedCount u.ratio u.marks

/-- A unit is ended COMPLETE: the record, and RECOVERY_SHORT where the check finds it short (R12, R13). -/
def endComplete (s : State) (u : UnitRec) : Taken :=
  let s1 := s.modUnit u.tag (fun v => completedUnit s v)
  { state := if (recoveryCheck s u).2 then s1.alarm .recoveryShort (some u.tag) else s1
    status := .ok
    body := degasBody .complete (completedUnit s u) }

/-- DEGAS_END at the Unit Table (R11 to R16). -/
def ownDegasEnd (n : Node) (outcome : Nat) (s : State) : Taken :=
  if outcome = 0 ∨ 3 < outcome then refuse s .badArgument
  else match s.boundUnit n with
    | none => refuse s .noUnit
    | some u =>
      if (s.ownedBay n).isSome ∨ (s.entry n).isSome then refuse s .feedActive
      else if outcome = 1 then endComplete s u
      else if outcome = 2 then
        if u.recovered ≤ s.params.emptyThreshold then
          { state := s.modUnit u.tag emptyUnit, status := .ok, body := degasBody .noCharge (emptyUnit u) }
        else endComplete s u
      else { state := s.modUnit u.tag abortedUnit, status := .ok, body := degasBody .aborted (abortedUnit u) }

/-- UNIT_QUERY at the Unit Table (R19). -/
def ownUnitQuery (unit : Nat) (s : State) : Taken :=
  if !tagInRange unit then refuse s .badArgument
  else match s.unit? unit with
    | none => refuse s .noUnit
    | some u => { state := s, status := .ok, body := .unit u }

/-- UNIT_RELEASE at the Unit Table (R20). -/
def ownUnitRelease (unit : Nat) (s : State) : Taken :=
  if !tagInRange unit then refuse s .badArgument
  else match s.unit? unit with
    | none => refuse s .noUnit
    | some u =>
      if u.state = .announced ∨ u.state = .closed then
        { state := s.setUnits (s.units.filter (fun v => v.tag != unit)), status := .ok, body := .unit u }
      else refuse s .wrongState

/-! ## The requests as taken by the Node Table -/

def takeAnnounce (n : Node) (tag unit category refr charge foam : Nat) : State → State :=
  take n tag .announce (ownAnnounce unit category refr charge foam)
def takeDegasBegin (n : Node) (tag unit cls : Nat) : State → State := take n tag .degasBegin (ownDegasBegin n unit cls)
def takeDegasEnd (n : Node) (tag outcome : Nat) : State → State := take n tag .degasEnd (ownDegasEnd n outcome)
def takeUnitQuery (n : Node) (tag unit : Nat) : State → State := take n tag .unitQuery (ownUnitQuery unit)
def takeUnitRelease (n : Node) (tag unit : Nat) : State → State := take n tag .unitRelease (ownUnitRelease unit)

/-! ## The meanings -/

/-- ANNOUNCE (R4, R5, R6). -/
def execAnnounce (n : Node) (tag unit category refr charge foam : Nat) (s : State) : Host.Outcome State Fault Refusal :=
  live (takeAnnounce n tag unit category refr charge foam) s

/-- DEGAS_BEGIN (R7, R8, R9). -/
def execDegasBegin (n : Node) (tag unit cls : Nat) (s : State) : Host.Outcome State Fault Refusal :=
  live (takeDegasBegin n tag unit cls) s

/-- DEGAS_END (R11 to R16). -/
def execDegasEnd (n : Node) (tag outcome : Nat) (s : State) : Host.Outcome State Fault Refusal :=
  live (takeDegasEnd n tag outcome) s

/-- UNIT_QUERY (R19). -/
def execUnitQuery (n : Node) (tag unit : Nat) (s : State) : Host.Outcome State Fault Refusal :=
  live (takeUnitQuery n tag unit) s

/-- UNIT_RELEASE (R20). -/
def execUnitRelease (n : Node) (tag unit : Nat) (s : State) : Host.Outcome State Fault Refusal :=
  live (takeUnitRelease n tag unit) s

end Sys2Proof.Machine
end

