-- ==== Sys2Proof/Machine/Vessels.lean ====
section
/-! DEFINITION. The vessel requests: VESSEL_MOUNT, VESSEL_RETIRE, CALIBRATE in both forms, VESSEL_CLEAR_FAULT,
VESSEL_QUERY; the closed-position switches, the close watch, and the Definition Store (Chapter 2). -/

namespace Sys2Proof.Machine

/-! ## The Definition Store (R38, R39) -/

/-- The store is busy: a write in progress or a zero capture engaged (R39). -/
def State.storeBusy (s : State) : Bool := s.store.op != .idle

/-- A write of a bay's record begins; it ends at most 30 ms later (R39; for the write of a zero capture, log 26). -/
def State.beginWrite (s : State) (b : BayIx) (c : StoreContents) : State := s.setStoreOp (.writing b c (s.now + 30))

/-- A write in progress is cut short: the bay's record fails its check; a zero capture is lost (R40, R62, R146). -/
def Store.cutShort (st : Store) : Store :=
  match st.op with
  | .writing b _ _ => { recs := st.recs.set b { st.recs[b] with good := false }, op := .idle }
  | _ => { st with op := .idle }

/-- A write ends: the whole record of its bay is replaced and its check value agrees (R38, R39). -/
def Store.finish (st : Store) : Store :=
  match st.op with
  | .writing b c _ => { recs := st.recs.set b { contents := c, good := true }, op := .idle }
  | _ => st

/-! ## VESSEL_MOUNT (R31, R32) -/

/-- The first check of VESSEL_MOUNT on its arguments (R31). -/
def mountArgsOk (vid : Nat) (g : GasClass) (capacity tare : Nat) : Bool :=
  decide (vid ≠ 0 ∧ 50 ≤ capacity ∧ capacity ≤ 5000 ∧ 1000 ≤ tare ∧ tare ≤ 400000
    ∧ tare + capacity * fillDensity g ≤ 1000000)

/-- The bay has no vessel in service: ABSENT or SEALED (R31). -/
def Bay.outOfService (r : Bay) : Bool := r.state == .absent || r.state == .sealed

/-- Another bay in service holds the vessel id (R31). -/
def State.vesselInUse (s : State) (b : BayIx) (vid : Nat) : Bool :=
  allBays.any (fun c => c != b && !(s.bay c).outOfService && (s.bay c).vessel.any (fun v => v.id == vid))

/-- The bay record a mount gives, its zero and scale kept (R32). -/
def Bay.mounted (r : Bay) (v : Vessel) : Bay :=
  { r with vessel := some v, net := 0, source := .initial, book := 0, unreconciled := 0, closeWatch := none }

/-- VESSEL_MOUNT at the Vessel Bank (R31, R32). -/
def ownVesselMount (bay vid cls capacity tare : Nat) (s : State) : Taken :=
  match bayOfArg bay, classOfCode cls with
  | some b, some g =>
    if !mountArgsOk vid g capacity tare then refuse s .badArgument
    else if !(s.bay b).outOfService then refuse s .wrongState
    else if s.vesselInUse b vid then refuse s .duplicate
    else if s.storeBusy then refuse s .storeBusy
    else
      let v : Vessel := { id := vid, cls := g, capacity := capacity, tare := tare }
      let s1 := (s.setBay b ((s.bay b).mounted v)).setFeed b none
      { state := (s1.beginWrite b (.definition v (s.bay b).zero (s.bay b).scale)).enterService b, status := .ok }
  | _, _ => refuse s .badArgument

/-! ## VESSEL_RETIRE (R33) -/

/-- VESSEL_RETIRE at the Vessel Bank (R33). -/
def ownVesselRetire (bay : Nat) (s : State) : Taken :=
  match bayOfArg bay with
  | none => refuse s .badArgument
  | some b =>
    match (s.bay b).state with
    | .absent => refuse s .wrongState
    | .sealed => refuse s .wrongState
    | .feeding => refuse s .bayBusy
    | .closing => refuse s .bayBusy
    | .settling => refuse s .bayBusy
    | .fault => refuse s .bayBusy
    | _ =>
      if s.storeBusy then refuse s .storeBusy
      else { state := (s.setBay b { s.bay b with state := .sealed }).beginWrite b .cleared, status := .ok }

/-! ## CALIBRATE (R34, R35) -/

/-- The states that CALIBRATE does not disturb (R34, R35). -/
def Bay.calibrationBusy (r : Bay) : Bool :=
  r.state == .settling || r.state == .feeding || r.state == .closing || r.state == .fault

/-- The store record a direct calibration writes: the full definition where a vessel is in service, the calibration
alone otherwise (R34, R38). -/
def Bay.calibrationRecord (r : Bay) (zeroAt scale : Nat) : StoreContents :=
  match r.outOfService, r.vessel with
  | false, some v => .definition v zeroAt scale
  | _, _ => .calibration zeroAt scale

/-- CALIBRATE with a zero in 0 to 16,777,214 at the Vessel Bank (R34). -/
def ownCalibrate (bay zeroAt scale : Nat) (s : State) : Taken :=
  match bayOfArg bay with
  | none => refuse s .badArgument
  | some b =>
    if scale = 0 then refuse s .badArgument
    else if (s.bay b).calibrationBusy then refuse s .bayBusy
    else if s.storeBusy then refuse s .storeBusy
    else
      let s1 := (s.setBay b { s.bay b with zero := zeroAt, scale := scale }).beginWrite b
        ((s.bay b).calibrationRecord zeroAt scale)
      { state := if (s.bay b).outOfService then s1 else s1.enterService b, status := .ok }

/-- CALIBRATE with a zero of 16,777,215, a zero capture, at the Vessel Bank (R35). -/
def ownZeroCapture (bay scale : Nat) (s : State) : Taken :=
  match bayOfArg bay with
  | none => refuse s .badArgument
  | some b =>
    if scale = 0 then refuse s .badArgument
    else if (s.bay b).calibrationBusy then refuse s .bayBusy
    else if (s.bay b).state ≠ .absent ∨ (s.channel b).state ≠ .ok then refuse s .wrongState
    else if s.storeBusy then refuse s .storeBusy
    else { state := (s.setStoreOp (.capture b scale)).openCapture b, status := .ok }

/-! ## VESSEL_CLEAR_FAULT, VESSEL_QUERY (R37, R42) -/

/-- VESSEL_CLEAR_FAULT at the Vessel Bank (R37). -/
def ownClearFault (bay : Nat) (s : State) : Taken :=
  match bayOfArg bay with
  | none => refuse s .badArgument
  | some b =>
    if (s.bay b).state ≠ .fault ∨ s.switch b = false then refuse s .wrongState
    else { state := s.enterService b, status := .ok }

/-- The vessel record body of a bay (R42). -/
def State.vesselBody (s : State) (b : BayIx) : Body :=
  .vessel b (s.bay b) ((s.feed b).map (fun f => (f.owner, f.endCause))) (s.switch b) (s.channel b).state
    (s.channel b).validRun (s.channel b).under

/-- VESSEL_QUERY at the Vessel Bank (R42). -/
def ownVesselQuery (bay : Nat) (s : State) : Taken :=
  match bayOfArg bay with
  | none => refuse s .badArgument
  | some b => { state := s, status := .ok, body := s.vesselBody b }

/-! ## Switches and the close watch (R28, R29, R30) -/

/-- The confirmation of a running close watch: the watch becomes absent; an unbooked feed on an OK channel gets its
FEED_END window, a booked one lets the bay leave CLOSING (R28, R30). -/
def State.confirmClose (s : State) (b : BayIx) : State :=
  let s1 := s.setBay b { s.bay b with closeWatch := none }
  match s1.feed b with
  | none => s1
  | some f =>
    if f.booked then s1.leaveClosing b
    else if (s1.channel b).state = .ok then s1.openWindow b .feedEnd
    else s1

/-- The switch input of a bay comes to read closed (R28); without a running close watch the bay does not change.
DESIGN CHOICE (log 28), unsafe: the clock is not looked at, so a watch whose deadline has come, but whose expiry is not
yet taken, is confirmed: what is taken first decides. -/
def switchCloses (b : BayIx) (s : State) : State :=
  let s1 := s.setSwitch b true
  if (s1.bay b).state = .closing ∧ (s1.bay b).closeWatch ≠ none then s1.confirmClose b else s1

/-- The close watch of a bay passes its deadline with the switch open: FAULT, VALVE_FAULT, the booking by estimate of an
unbooked feed, and the feed record freed (R29). -/
def State.expireClose (s : State) (b : BayIx) : State :=
  let s1 := (s.setBay b { s.bay b with state := .fault, closeWatch := none }).alarm .valveFault (some b.val)
  (s1.bookByEstimate b).setFeed b none

/-- The passing of a close watch deadline; a watch that has ended or not yet reached its deadline is not touched (R29). -/
def passCloseWatch (b : BayIx) (arrival : Nat) (s : State) : State :=
  let s1 := s.advance arrival
  if s1.passed (s1.bay b).closeWatch then s1.expireClose b else s1

/-- The end of a store write (R39). -/
def endStoreWrite (s : State) : State := { s with store := s.store.finish }

/-! ## The requests as taken by the Node Table -/

def takeVesselMount (n : Node) (tag bay vid cls capacity tare : Nat) : State → State :=
  take n tag .vesselMount (ownVesselMount bay vid cls capacity tare)
def takeVesselRetire (n : Node) (tag bay : Nat) : State → State := take n tag .vesselRetire (ownVesselRetire bay)
def takeCalibrate (n : Node) (tag bay zeroAt scale : Nat) : State → State :=
  take n tag .calibrate (ownCalibrate bay zeroAt scale)
def takeZeroCapture (n : Node) (tag bay scale : Nat) : State → State := take n tag .calibrate (ownZeroCapture bay scale)
def takeClearFault (n : Node) (tag bay : Nat) : State → State := take n tag .vesselClearFault (ownClearFault bay)
def takeVesselQuery (n : Node) (tag bay : Nat) : State → State := take n tag .vesselQuery (ownVesselQuery bay)

/-! ## The meanings -/

/-- VESSEL_MOUNT (R31, R32). -/
def execVesselMount (n : Node) (tag bay vid cls capacity tare : Nat) (s : State) : Host.Outcome State Fault Refusal :=
  live (takeVesselMount n tag bay vid cls capacity tare) s

/-- VESSEL_RETIRE (R33). -/
def execVesselRetire (n : Node) (tag bay : Nat) (s : State) : Host.Outcome State Fault Refusal :=
  live (takeVesselRetire n tag bay) s

/-- CALIBRATE (R34); the zero value 16,777,215 makes it a zero capture (R35). -/
def execCalibrate (n : Node) (tag bay zeroAt scale : Nat) (s : State) : Host.Outcome State Fault Refusal :=
  live (if zeroAt = 16777215 then takeZeroCapture n tag bay scale else takeCalibrate n tag bay zeroAt scale) s

/-- CALIBRATE with zero 16,777,215 (R35). -/
def execCalibrateZeroCapture (n : Node) (tag bay scale : Nat) (s : State) : Host.Outcome State Fault Refusal :=
  live (takeZeroCapture n tag bay scale) s

/-- VESSEL_CLEAR_FAULT (R37). -/
def execVesselClearFault (n : Node) (tag bay : Nat) (s : State) : Host.Outcome State Fault Refusal :=
  live (takeClearFault n tag bay) s

/-- VESSEL_QUERY (R42). -/
def execVesselQuery (n : Node) (tag bay : Nat) (s : State) : Host.Outcome State Fault Refusal :=
  live (takeVesselQuery n tag bay) s

/-- SWITCH_CLOSED (R28, R30); under reset the input alone changes. -/
def execSwitchClosed (b : BayIx) (s : State) : Host.Outcome State Fault Refusal :=
  .next (if s.inReset then s.setSwitch b true else switchCloses b s)

/-- SWITCH_OPEN (R28, R37): the reading changes and nothing else. -/
def execSwitchOpen (b : BayIx) (s : State) : Host.Outcome State Fault Refusal := .next (s.setSwitch b false)

/-- CLOSE_WATCH_EXPIRY (R29). -/
def execCloseWatchExpiry (b : BayIx) (arrival : Nat) (s : State) : Host.Outcome State Fault Refusal :=
  live (passCloseWatch b arrival) s

/-- STORE_WRITE_END (R39). -/
def execStoreWriteEnd (s : State) : Host.Outcome State Fault Refusal := live endStoreWrite s

end Sys2Proof.Machine
end

