-- ==== Sys2Proof/Machine/Requests.lean ====
section
/-! DEFINITION. Request frames: the command a frame of the burst buffer stands for, the frame that carries a command,
and the taking of one frame at TURN (R151, R163, R167). -/

namespace Sys2Proof.Machine

/-- The items of a SET_DIGEST payload after its count byte: selector, index, selector, index, … (R163). -/
def digestItems (bs : List Byte) : List (Nat × Nat) :=
  match bs with
  | a :: b :: rest => (a.toNat, b.toNat) :: digestItems rest
  | _ => []

/-- The payload length of a long request as the table of R163 gives it; the length of SET_DIGEST depends on its count
byte. -/
def payloadLengthOk (k : ReqKind) (p : List Byte) : Bool :=
  match k with
  | .announce => p.length == 9
  | .degasBegin | .cabinetAdmit => p.length == 5
  | .unitQuery | .unitRelease => p.length == 4
  | .vesselMount => p.length == 10
  | .calibrate => p.length == 6
  | .setParam => p.length == 3
  | .setExpect => p.length == 4
  | .setDigest => p.length ≠ 0 && p.length == 1 + 2 * payloadField p 0 1
  | _ => true

/-- The command a kept request frame of a node stands for; none where its payload length is not the table's (R163). A
CALIBRATE whose zero is 16,777,215 is a zero capture (R35). -/
def requestOf (n : Node) (f : ReqFrame) : Option Instr :=
  let p := f.payload
  let t := f.tag
  if !payloadLengthOk f.kind p then none
  else some (match f.kind with
    | .replyLimit => .replyLimit n t f.arg
    | .linkStats => .linkStats n t f.arg
    | .feedOpen => .feedOpen n t
    | .feedProgress => .feedProgress n t f.arg
    | .feedClose => .feedClose n t f.arg
    | .feedCancel => .feedCancel n t
    | .feedOutcome => .feedOutcome n t
    | .degasEnd => .degasEnd n t f.arg
    | .foamOpen => .foamOpen n t f.arg
    | .foamResume => .foamResume n t
    | .foamClose => .foamClose n t
    | .batchQuery => .batchQuery n t (f.arg / 256) (f.arg % 256)
    | .vesselQuery => .vesselQuery n t f.arg
    | .alarmRead => .alarmRead n t f.arg
    | .permit => .permit n t f.arg
    | .vesselRetire => .vesselRetire n t f.arg
    | .vesselClearFault => .vesselClearFault n t f.arg
    | .linkOptions => .linkOptions n t f.arg
    | .announce =>
      .announce n t (payloadField p 0 4) (payloadField p 4 1) (payloadField p 5 1) (payloadField p 6 2) (payloadField p 8 1)
    | .degasBegin => .degasBegin n t (payloadField p 0 4) (payloadField p 4 1)
    | .cabinetAdmit => .cabinetAdmit n t (payloadField p 0 4) (payloadField p 4 1)
    | .unitQuery => .unitQuery n t (payloadField p 0 4)
    | .unitRelease => .unitRelease n t (payloadField p 0 4)
    | .vesselMount =>
      .vesselMount n t (payloadField p 0 1) (payloadField p 1 2) (payloadField p 3 1) (payloadField p 4 2) (payloadField p 6 4)
    | .calibrate =>
      if payloadField p 1 3 = 16777215 then .calibrateZeroCapture n t (payloadField p 0 1) (payloadField p 4 2)
      else .calibrate n t (payloadField p 0 1) (payloadField p 1 3) (payloadField p 4 2)
    | .setParam => .setParam n t (payloadField p 0 1) (payloadField p 1 2)
    | .setExpect => .setExpect n t (payloadField p 0 1) (payloadField p 1 1) (payloadField p 2 2)
    | .setDigest => .setDigest n t (digestItems (p.drop 1)))

/-- The sender and the frame of a request command (R163); none for a command that is no request. -/
def frameOf (i : Instr) : Option (Node × ReqFrame) :=
  let short (n : Node) (k : ReqKind) (t arg : Nat) : Option (Node × ReqFrame) :=
    some (n, { kind := k, tag := t, arg := arg, payload := [] })
  let long (n : Node) (k : ReqKind) (t : Nat) (p : List Byte) : Option (Node × ReqFrame) :=
    some (n, { kind := k, tag := t, arg := p.length, payload := p })
  match i with
  | .replyLimit n t bytes => short n .replyLimit t bytes
  | .linkStats n t addr => short n .linkStats t addr
  | .feedOpen n t => short n .feedOpen t 0
  | .feedProgress n t flow => short n .feedProgress t flow
  | .feedClose n t flow => short n .feedClose t flow
  | .feedCancel n t => short n .feedCancel t 0
  | .feedOutcome n t => short n .feedOutcome t 0
  | .degasEnd n t outcome => short n .degasEnd t outcome
  | .foamOpen n t cls => short n .foamOpen t cls
  | .foamResume n t => short n .foamResume t 0
  | .foamClose n t => short n .foamClose t 0
  | .batchQuery n t line slot => short n .batchQuery t (256 * line + slot)
  | .vesselQuery n t bay => short n .vesselQuery t bay
  | .alarmRead n t group => short n .alarmRead t group
  | .permit n t value => short n .permit t value
  | .vesselRetire n t bay => short n .vesselRetire t bay
  | .vesselClearFault n t bay => short n .vesselClearFault t bay
  | .linkOptions n t options => short n .linkOptions t options
  | .announce n t unit category refr charge foam =>
    long n .announce t (beBytes 4 unit ++ beBytes 1 category ++ beBytes 1 refr ++ beBytes 2 charge ++ beBytes 1 foam)
  | .degasBegin n t unit cls => long n .degasBegin t (beBytes 4 unit ++ beBytes 1 cls)
  | .cabinetAdmit n t unit cls => long n .cabinetAdmit t (beBytes 4 unit ++ beBytes 1 cls)
  | .unitQuery n t unit => long n .unitQuery t (beBytes 4 unit)
  | .unitRelease n t unit => long n .unitRelease t (beBytes 4 unit)
  | .vesselMount n t bay vid cls capacity tare =>
    long n .vesselMount t (beBytes 1 bay ++ beBytes 2 vid ++ beBytes 1 cls ++ beBytes 2 capacity ++ beBytes 4 tare)
  | .calibrate n t bay zeroAt scale => long n .calibrate t (beBytes 1 bay ++ beBytes 3 zeroAt ++ beBytes 2 scale)
  | .calibrateZeroCapture n t bay scale => long n .calibrate t (beBytes 1 bay ++ beBytes 3 16777215 ++ beBytes 2 scale)
  | .setParam n t id value => long n .setParam t (beBytes 1 id ++ beBytes 2 value)
  | .setExpect n t category cls grams => long n .setExpect t (beBytes 1 category ++ beBytes 1 cls ++ beBytes 2 grams)
  | .setDigest n t items =>
    long n .setDigest t (beBytes 1 items.length ++ items.flatMap (fun i => beBytes 1 i.1 ++ beBytes 1 i.2))
  | _ => none

/-- The taking of the request a command stands for; a command that is no request is no taking (R151). -/
def takeRequest (i : Instr) (s : State) : State :=
  match i with
  | .replyLimit n t bytes => takeReplyLimit n t bytes s
  | .linkStats n t addr => takeLinkStats n t addr s
  | .feedOpen n t => takeFeedOpen n t s
  | .feedProgress n t flow => takeFeedProgress n t flow s
  | .feedClose n t flow => takeFeedClose n t flow s
  | .feedCancel n t => takeFeedCancel n t s
  | .feedOutcome n t => takeFeedOutcome n t s
  | .degasEnd n t outcome => takeDegasEnd n t outcome s
  | .foamOpen n t cls => takeFoamOpen n t cls s
  | .foamResume n t => takeFoamResume n t s
  | .foamClose n t => takeFoamClose n t s
  | .batchQuery n t line slot => takeBatchQuery n t line slot s
  | .vesselQuery n t bay => takeVesselQuery n t bay s
  | .alarmRead n t group => takeAlarmRead n t group s
  | .permit n t value => takePermit n t value s
  | .vesselRetire n t bay => takeVesselRetire n t bay s
  | .vesselClearFault n t bay => takeClearFault n t bay s
  | .linkOptions n t options => takeLinkOptions n t options s
  | .announce n t unit category refr charge foam => takeAnnounce n t unit category refr charge foam s
  | .degasBegin n t unit cls => takeDegasBegin n t unit cls s
  | .cabinetAdmit n t unit cls => takeCabinetAdmit n t unit cls s
  | .unitQuery n t unit => takeUnitQuery n t unit s
  | .unitRelease n t unit => takeUnitRelease n t unit s
  | .vesselMount n t bay vid cls capacity tare => takeVesselMount n t bay vid cls capacity tare s
  | .calibrate n t bay zeroAt scale => takeCalibrate n t bay zeroAt scale s
  | .calibrateZeroCapture n t bay scale => takeZeroCapture n t bay scale s
  | .setParam n t id value => takeSetParam n t id value s
  | .setExpect n t category cls grams => takeSetExpect n t category cls grams s
  | .setDigest n t items => takeSetDigest n t items s
  | _ => s

/-- One request frame is taken: the role first, then the payload length, then the owner's part (R151, R163, R167). -/
def takeFrame (n : Node) (f : ReqFrame) (s : State) : State :=
  match requestOf n f with
  | some i => takeRequest i s
  | none => take n f.tag f.kind (fun t => refuse t .badArgument) s

end Sys2Proof.Machine
end

