-- ==== Sys2Proof/Machine/Replies.lean ====
section
/-! DEFINITION. The composition of replies: payload, digest section, filler, and the reply burst (R152, R164, R171,
R174, R175). -/

namespace Sys2Proof.Machine

/-! ## Digest items (R164, R174) -/

/-- A free byte of a digest item: the bytes R164 does not name (log 12). -/
def State.freeByte (s : State) (k : Nat) : Byte := Config.freeDigestByte (s.freeCount + k)

/-- The code of a slot's batch state, 0 for NONE (R117). -/
def slotStateCode (b : Option Batch) : Nat := (b.map (fun x => batchStateCode x.state)).getD 0

/-- The four bytes of a digest item's value (R164, R168, R174). DEDUCED (log 13): the BATCH item of a current slot in
NONE reports the line's last batch number. -/
def State.digestValue (s : State) (item : Nat × Nat) : List Byte :=
  match item.1, bayOfArg item.2, nodeOfAddr item.2, lineOfArg item.2 with
  | 1, some b, _, _ => [s.freeByte 0, s.freeByte 1, s.freeByte 2] ++ beBytes 1 (bayStateCode (s.bay b).state)
  | 2, some b, _, _ => beBytes 4 (if (s.channel b).state = .lost then (s.bay b).book else (s.bay b).net)
  | 3, some b, _, _ => optOnes 4 (s.bay b).headroom
  | 4, some b, _, _ =>
    [s.freeByte 0, s.freeByte 1] ++ beBytes 1 (((s.feed b).map (fun f => nodeAddr f.owner)).getD 0)
      ++ beBytes 1 (endCauseCode ((s.feed b).bind (·.endCause)))
  | 5, _, _, _ => [s.freeByte 0, s.freeByte 1, s.freeByte 2] ++ beBytes 1 s.waits.length
  | 6, _, _, _ => yesNo s.permitOn ++ yesNo s.interlock.flag ++ yesNo s.interlock.healthy ++ yesNo s.interlock.estop
  | 7, _, _, _ =>
    yesNo s.alarms.groups[0] ++ yesNo s.alarms.groups[1] ++ yesNo s.alarms.groups[2] ++ yesNo s.alarms.groups[3]
  | 8, _, some n, _ =>
    beBytes 1 0 ++ beBytes 1 (presenceCode (s.node n).presence) ++ yesNo (s.node n).saturated
      ++ beBytes 1 (s.node n).errCount
  | 9, _, _, some l =>
    beBytes 1 (slotStateCode (s.line l).current)
      ++ beBytes 2 (((s.line l).current.map (·.number)).getD (s.line l).lastNumber)
      ++ beBytes 1 (((s.line l).current.map (fun b => b.cabinets.length)).getD 0)
  | _, _, _, _ => beBytes 4 0

/-- The six bytes of a digest item: selector, index, value (R164). -/
def State.digestItemBytes (s : State) (item : Nat × Nat) : List Byte :=
  beBytes 1 item.1 ++ beBytes 1 item.2 ++ s.digestValue item

/-- `k` items from the cursor on, wrapping from the last item to the first (R175). -/
def digestPick (items : List (Nat × Nat)) (cursor k : Nat) : List (Nat × Nat) :=
  (List.range k).map (fun i => items.getD ((cursor + i) % items.length) (0, 0))

/-- How many items a section takes: as many whole items as fit after the count byte, at most the whole list (R175). -/
def digestCount (items : List (Nat × Nat)) (space : Nat) : Nat := min items.length ((space - 1) / 6)

/-- The bytes of some items, one after another, each drawing its own free bytes (log 12). -/
def State.digestBytes (s : State) (items : List (Nat × Nat)) : List Byte :=
  match items with
  | [] => []
  | i :: rest => s.digestItemBytes i ++ { s with freeCount := s.freeCount + 4 }.digestBytes rest

/-- The digest section of a REPLY with `space` bytes left: the count byte and the items; none where the list is empty or
no space is left (R164, R175). -/
def State.digestSection (s : State) (n : Node) (space : Nat) : List Byte :=
  let r := s.node n
  if r.digest = [] ∨ space = 0 then []
  else
    let k := digestCount r.digest space
    beBytes 1 k ++ s.digestBytes (digestPick r.digest r.cursor k)

/-- The cursor moves on by the items taken (R175). -/
def State.moveCursor (s : State) (n : Node) (space : Nat) : State :=
  let r := s.node n
  if r.digest = [] ∨ space = 0 then s
  else
    let k := digestCount r.digest space
    { s.setNode n { r with cursor := (r.cursor + k) % r.digest.length } with freeCount := s.freeCount + 4 * k }

/-! ## A REPLY (R164) -/

/-- Status, kind and body: the part that is always sent whole (R164). -/
def replyHead (st : Status) (k : ReqKind) (b : Body) : List Byte :=
  beBytes 1 (statusCode st) ++ beBytes 1 (reqCode k) ++ b.bytes

/-- The payload of a REPLY: head, digest section, and in fixed-length mode filler up to the reply limit (R164, R175). -/
def State.replyPayload (s : State) (n : Node) (st : Status) (k : ReqKind) (b : Body) : List Byte :=
  let head := replyHead st k b
  let space := (s.node n).replyLimit - head.length
  let body := head ++ s.digestSection n space
  if (s.node n).fixedLength then body ++ List.replicate ((s.node n).replyLimit - body.length) 0 else body

/-- The state after a REPLY is composed: the digest cursor has moved (R175). -/
def State.afterReply (s : State) (n : Node) (st : Status) (k : ReqKind) (b : Body) : State :=
  s.moveCursor n ((s.node n).replyLimit - (replyHead st k b).length)

/-! ## The reply burst (R152) -/

/-- The reply a slot holds, DELIVERABLE or HELD (R152). -/
def Slot.reply? (x : Slot) : Option SlotReply :=
  match x with
  | .deliverable r => some r
  | .held r => some r
  | _ => none

/-- The slot reply frame of a node, composed as the state stands, put behind the frames being sent (R152, R154). -/
def State.sendSlotReply (s : State) (n : Node) : State :=
  match (s.node n).slot.reply? with
  | none => s
  | some r =>
    let f := OutFrame.slotReply r.tag (s.replyPayload n r.status r.kind r.body)
    let s1 := s.afterReply n r.status r.kind r.body
    s1.setPli { s1.pli with sending := s1.pli.sending ++ [f] }

/-- The REPLY to one taken request, put behind the frames being sent (R152). -/
def State.sendAnswer (s : State) (n : Node) (a : Answer) : State :=
  let f := OutFrame.reply a.tag (s.replyPayload n a.status a.kind a.body)
  let s1 := s.afterReply n a.status a.kind a.body
  s1.setPli { s1.pli with sending := s1.pli.sending ++ [f] }

/-- The frames that close a reply burst: REPORT where the error set is not empty, then TURN, or END where this is the
eighth reply burst of the connection (R152). -/
def burstTail (errors : BitVec 16) (bursts : Nat) : List OutFrame :=
  (if errors = 0 then [] else [OutFrame.report errors]) ++ [if bursts ≥ 7 then OutFrame.endFrame else OutFrame.turn]

/-- The reply burst is composed: the slot reply, one REPLY for each answer, REPORT, and TURN or END (R152). -/
def State.composeBurst (s : State) (n : Node) (bursts : Nat) (answers : List Answer) : State :=
  let s1 := (s.setPli { s.pli with sending := [] }).sendSlotReply n
  let s2 := answers.foldl (fun t a => t.sendAnswer n a) s1
  s2.setPli { s2.pli with sending := s2.pli.sending ++ burstTail s2.pli.errors bursts }

/-! ## Taking the burst (R151) -/

/-- The requests of the burst buffer are taken in order, oldest first, each whole before the next; their answers in
order (R151). -/
def takeAll (n : Node) (fs : List ReqFrame) (s : State) : State × List Answer :=
  match fs with
  | [] => (s, [])
  | f :: rest =>
    let s1 := takeFrame n f s
    let r := takeAll n rest s1
    (r.1, s1.lastReply.toList ++ r.2)

end Sys2Proof.Machine
end

