-- ==== Sys2Proof/Machine/Line.lean ====
section
/-! DEFINITION. The commands of the plant line: arbitration, selections, frames of a connection, what has been sent
whole, timeouts and line resets (Chapter 9). -/

namespace Sys2Proof.Machine

/-! ## The connection (R147, R150) -/

/-- A MASTER connection whose turn the partner holds (R150). -/
def Conn.partnersTurn (c : Conn) : Bool := c.kind == .master && c.turn == .partner

/-- The PLI with no connection and nothing in progress, the line in a state `l`; the delivery list stays
(R150, R152, R156, R157). -/
def Pli.dropped (p : Pli) (l : LineState) : Pli := { line := l, delivery := p.delivery, claimHold := p.claimHold }

/-- The connection ends, and the line goes to FREE (R150, R152). -/
def State.endConn (s : State) : State := s.setPli (s.pli.dropped .free)

/-- The connection ends with an END sent by the PLI, which `sending` shows (R155, R156; log 16). -/
def State.endConnWithEnd (s : State) : State := s.setPli { s.pli.dropped .free with sending := [.endFrame] }

/-- A node is marked with a presence (R168). -/
def State.setPresence (s : State) (n : Node) (p : Presence) : State := s.setNode n { s.node n with presence := p }

/-- One counted error of a node (R160). -/
def State.countError (s : State) (n : Node) : State := s.setNode n (s.node n).countError

/-- An error bit joins the error set of the connection (R158). -/
def State.addError (s : State) (e : ErrBit) : State := s.setPli { s.pli with errors := addErr e s.pli.errors }

/-- The turn deadline moves to 50 ms after the end of a frame in the partner's turn (R150). -/
def State.touch (s : State) : State :=
  s.setPli { s.pli with
    conn := s.pli.conn.map (fun c => if c.partnersTurn then { c with deadline := some (s.now + 50) } else c) }

/-- The burst is halted where burst halt is on for the partner; only in the partner's turn, where there is a burst
(R161; DEDUCED, log 14). -/
def State.haltBurst (s : State) (c : Conn) : State :=
  if c.partnersTurn && (s.node c.partner).burstHalt then s.setPli { s.pli with halted := true } else s

/-- A frame is discarded: its bit joins the error set; a counted bit is counted once and halts the burst
(R158, R160, R161). -/
def State.discardFrame (s : State) (c : Conn) (e : ErrBit) : State :=
  let s1 := s.addError e
  if errCounted e then (s1.countError c.partner).haltBurst c else s1

/-! ## Frames of a connection (R150, R151, R158) -/

/-- A request frame that passes checks 1 to 9: room, then halt, then the burst buffer (R150, R158, R161). -/
def State.keepRequest (s : State) (c : Conn) (f : ReqFrame) : State :=
  if s.pli.buffer.length ≥ 4 then s.discardFrame c .burstOver
  else if s.pli.halted then s.discardFrame c .skipped
  else s.setPli { s.pli with buffer := s.pli.buffer ++ [f] }

/-- TURN: the requests of the buffer are taken in order, the buffer is emptied, halted becomes no, the turn passes to the
GX-612, and the reply burst is composed (R151, R152). -/
def State.takeTurn (s : State) (c : Conn) : State :=
  let r := takeAll c.partner s.pli.buffer s
  (r.1.setPli { r.1.pli with buffer := [], halted := false, conn := some { c with turn := .gx, deadline := none } }).composeBurst
    c.partner c.bursts r.2

/-- A frame that passes checks 1 to 8 acts by its kind (R150); outside the partner's turn no kind is allowed
(R150, R154). -/
def State.keepFrame (s : State) (c : Conn) (f : Kept) : State :=
  if c.partnersTurn then
    match f with
    | .request r => (s.keepRequest c r).touch
    | .ctrl k =>
      match k with
      | .fill => s.touch
      | .turn => s.takeTurn c
      | .endFrame => s.endConn
      | .select => (s.discardFrame c .outOfPlace).touch
      | .selectAck => (s.discardFrame c .outOfPlace).touch
      | .reply => (s.discardFrame c .outOfPlace).touch
      | .report => (s.discardFrame c .outOfPlace).touch
  else s.discardFrame c .outOfPlace

/-- HDR_FIXED joins the error set where the header was corrected (R158). -/
def State.noteFixed (s : State) (corrected : Bool) : State := if corrected then s.addError .hdrFixed else s

/-- A frame from the partner of a connection, whatever its bytes (R158). -/
def State.takeVerdict (s : State) (c : Conn) (v : Verdict) : State :=
  match v with
  | .discard e corrected => ((s.noteFixed corrected).discardFrame c e).touch
  | .keep f corrected => (s.noteFixed corrected).keepFrame c f

/-- The connection the PLI is a party to, once its selection is complete (R147). -/
def State.openConn (s : State) : Option Conn := if s.pli.line = .connected then s.pli.conn else none

/-- Bytes of a frame arrive on the data pair. Without a connection of its own the PLI takes no notice (R147).
DESIGN CHOICE (log 28), unsafe: a frame taken before the passing of its turn deadline is taken, whatever the clock reads. -/
def receive (raw : RawFrame) (s : State) : State :=
  match s.openConn with
  | some c => s.takeVerdict c (checkFrame c.partner raw)
  | none => s

/-- The PLI follows the line between other nodes: neither a connection nor an answer of its own is under way
(R147; log 10). -/
def Pli.following (p : Pli) : Bool := p.conn.isNone && p.acking.isNone

/-- END: in the PLI's own connection as any frame; an END between other nodes brings the line to FREE
(R147, R150; log 10). -/
def takeEnd (raw : RawFrame) (s : State) : State :=
  if s.pli.following && (s.pli.line == .connected || s.pli.line == .selecting) && isCtrl raw .endFrame then s.endConn
  else receive raw s

/-! ## Arbitration (R148) -/

/-- One bit of an arbitration: the pair reads the wired-AND of what the contenders send, and a contender that sent 1 and
reads 0 withdraws (R148). -/
def arbitrateBit (cs : List (BitVec 4)) (k : Nat) : List (BitVec 4) :=
  let pair := cs.all (fun c => c.getLsbD k)
  cs.filter (fun c => !(c.getLsbD k && !pair))

/-- The contender that remains after the four bits, most significant first (R148). -/
def arbitrate (cs : List (BitVec 4)) : Option (BitVec 4) :=
  (arbitrateBit (arbitrateBit (arbitrateBit (arbitrateBit cs 3) 2) 1) 0).head?

/-- The contenders of an arbitration: the PLI with address 0 where its delivery list is not empty, and the masters that
want the line (R148). -/
def State.contenders (s : State) (masters : List (BitVec 4)) : List (BitVec 4) :=
  (if s.pli.delivery = [] then [] else [0]) ++ masters

/-- An arbitration from a FREE line to SELECTING, in one step (R148; log 9). -/
def takeArbitration (masters : List (BitVec 4)) (s : State) : State :=
  if s.pli.line = .free then
    match arbitrate (s.contenders masters) with
    | some w => s.setPli { s.pli.dropped .selecting with winner := some w.toNat }
    | none => s
  else s

/-! ## Selections (R149, R154, R155) -/

/-- The sender of a SELECT that the PLI answers: receiver 0, sender 1 to 12, and the winner of the arbitration just
ended (R149). -/
def State.answeredSelect (s : State) (raw : RawFrame) : Option Node :=
  match headerOf raw with
  | some h =>
    if h.kind = ctrlCode .select ∧ h.receiver = 0 ∧ s.pli.winner = some h.sender then nodeOfAddr h.sender else none
  | none => none

/-- SELECT: in SELECTING it is answered with SELECT_ACK or left alone; in the PLI's own connection it is a frame as any
other (R149, R150). -/
def takeSelect (raw : RawFrame) (s : State) : State :=
  if s.pli.line = .selecting ∧ s.pli.following = true then
    match s.answeredSelect raw with
    | some n => s.setPli { s.pli with acking := some n, sending := [.selectAck] }
    | none => s
  else receive raw s

/-- The connection of a selection by a master (R149). -/
def State.masterConn (s : State) (n : Node) : Conn :=
  { kind := .master, partner := n, turn := .partner, bursts := 0, deadline := some (s.now + 50) }

/-- SELECTION_COMPLETE: SELECT_ACK has been sent whole (R149). -/
def completeSelection (s : State) : State :=
  match s.pli.line, s.pli.acking with
  | .selecting, some n =>
    (s.setPli { s.pli.dropped .connected with conn := some (s.masterConn n) }).setPresence n .present
  | _, _ => s

/-- The connection of a reselection: the turn stays with the GX-612 (R154). -/
def reselectionConn (n : Node) : Conn := { kind := .reselection, partner := n, turn := .gx, bursts := 0, deadline := none }

/-- RESELECTION: the PLI has won and sends SELECT to the node at the head of the delivery list (R154). -/
def reselect (s : State) : State :=
  match s.pli.delivery with
  | [] => s
  | n :: _ =>
    if s.pli.line = .selecting ∧ s.pli.winner = some 0 ∧ s.pli.following = true then
      s.setPli { s.pli with conn := some (reselectionConn n), selectDeadline := some (s.now + 5), sending := [.select] }
    else s

/-- A SELECT_ACK from the node being selected: its header passes the checks, it comes from the node and goes to the
GX-612 (R154, R155). -/
def answersReselection (raw : RawFrame) (n : Node) : Bool :=
  match headerOf raw with
  | some h => h.kind == ctrlCode .selectAck && h.sender == nodeAddr n && h.receiver == 0
  | none => false

/-- The selection of a reselection is complete: the node is PRESENT, the line CONNECTED, and the slot's reply and END are
sent (R154). -/
def State.deliverReselected (s : State) (c : Conn) : State :=
  let s1 := (s.setPli { s.pli.dropped .connected with conn := some c }).setPresence c.partner .present
  let s2 := s1.sendSlotReply c.partner
  s2.setPli { s2.pli with sending := s2.pli.sending ++ [.endFrame] }

/-- SELECT_ACK: the answer to a reselection; between other nodes it completes their selection (log 10); in a connection
of the PLI it is a frame as any other (R147, R150, R154, R155). DEDUCED (log 29), unsafe: while the PLI waits for the
answer, a frame that the checks of R158 discard sets no bit and counts nowhere. DESIGN CHOICE (log 28), unsafe: an answer
taken before the passing of the 5 ms is an answer, whatever the clock reads. -/
def takeSelectAck (raw : RawFrame) (s : State) : State :=
  if s.pli.line = .selecting then
    match s.pli.conn with
    | some c => if answersReselection raw c.partner then s.deliverReselected c else s
    | none =>
      if s.pli.following && isCtrl raw .selectAck then s.setPli (s.pli.dropped .connected) else s
  else receive raw s

/-- A DELIVERABLE slot becomes HELD (R155, R169). -/
def Slot.hold (x : Slot) : Slot :=
  match x with
  | .deliverable r => .held r
  | _ => x

/-- An address leaves the delivery list (R153). -/
def State.undeliver (s : State) (n : Node) : State := s.setPli { s.pli with delivery := s.pli.delivery.filter (· != n) }

/-- A reselection that nobody answers ends: the slot is HELD, the node UNREACHABLE and off the list, NODE_UNREACHABLE
counted, END sent and the line FREE (R155). -/
def State.failReselection (s : State) (n : Node) : State :=
  let s1 := s.setNode n { s.node n with slot := (s.node n).slot.hold, presence := .unreachable }
  ((s1.undeliver n).alarm .nodeUnreachable (some (nodeAddr n))).endConnWithEnd

/-- RESELECTION_TIMEOUT (R155). -/
def passReselection (arrival : Nat) (s : State) : State :=
  let s1 := s.advance arrival
  match s1.pli.line, s1.pli.conn with
  | .selecting, some c => if s1.passed s1.pli.selectDeadline then s1.failReselection c.partner else s1
  | _, _ => s1

/-- TURN_TIMEOUT: the turn deadline of a MASTER connection passes in the partner's turn (R156). -/
def passTurn (arrival : Nat) (s : State) : State :=
  let s1 := s.advance arrival
  match s1.openConn with
  | some c =>
    if c.partnersTurn && s1.passed c.deadline then (s1.countError c.partner).endConnWithEnd else s1
  | none => s1

/-! ## Line reset (R153, R157) -/

/-- A slot reply is in the burst and not yet sent whole (R152). -/
def OutFrame.isSlotReply (f : OutFrame) : Bool :=
  match f with
  | .slotReply _ _ => true
  | _ => false

/-- A HELD slot whose reply a line reset cuts short in a master connection becomes DELIVERABLE, at the tail of the
delivery list (R153). -/
def State.returnHeld (s : State) (c : Conn) : State :=
  match (s.node c.partner).slot with
  | .held r =>
    if c.kind = .master ∧ s.pli.sending.any OutFrame.isSlotReply = true then s.deliver c.partner r else s
  | _ => s

/-- Whatever is in progress on the line is abandoned (R157). DEDUCED (log 29), unsafe: a frame cut short while the PLI
selects, before its connection is complete, counts nowhere. -/
def State.abandonLine (s : State) (receiving : Bool) : State :=
  match s.openConn with
  | none => s.setPli (s.pli.dropped .resetting)
  | some c =>
    let s1 := if receiving then s.countError c.partner else s
    let s2 := s1.returnHeld c
    s2.setPli (s2.pli.dropped .resetting)

/-- LINE_RESET: the claim pair has been low for 1 ms; a pair that stays low is the same reset (R157). `receiving` says
whether a frame of the partner was arriving (log 18). -/
def takeLineReset (receiving : Bool) (s : State) : State :=
  if s.pli.line = .resetting then s else s.abandonLine receiving

/-- LINE_RESET_RELEASE: the claim pair is released (R157). DESIGN CHOICE (log 27), unsafe: the command is the release of
the whole pair, so one that comes while the PLI's own 2 ms hold still runs ends that hold and frees the line at once. -/
def releaseLine (s : State) : State :=
  if s.pli.line = .resetting then
    (s.setPli { s.pli.dropped .free with claimHold := none }).alarm .lineReset none
  else s

/-- LINE_IDLE_TIMEOUT: the PLI drives a line reset of 2 ms, which acts like any other; no frame is arriving on an idle
line (R157; log 18). -/
def passIdle (arrival : Nat) (s : State) : State :=
  let s1 := s.advance arrival
  if s1.pli.line = .free then s1
  else
    let s2 := takeLineReset false s1
    s2.setPli { s2.pli with claimHold := some (s2.now + 2) }

/-! ## Frames sent whole (R152, R154; log 15) -/

/-- The frames being sent without the ordinary replies at their head; these have gone out before what follows them. -/
def OutFrame.afterReplies (fs : List OutFrame) : List OutFrame :=
  match fs with
  | .reply _ _ :: rest => OutFrame.afterReplies rest
  | _ => fs

/-- SLOT_REPLY_DELIVERED: the slot becomes EMPTY, and the partner leaves the delivery list (R152, R153, R154). -/
def slotReplySent (s : State) : State :=
  match s.openConn, s.pli.sending with
  | some c, .slotReply _ _ :: rest =>
    let s1 := (s.setSlot c.partner .empty).undeliver c.partner
    s1.setPli { s1.pli with sending := rest }
  | _, _ => s

/-- REPORT_SENT: the error set becomes empty (R152). -/
def reportSent (s : State) : State :=
  match OutFrame.afterReplies s.pli.sending with
  | .report _ :: rest => s.setPli { s.pli with errors := 0, sending := rest }
  | _ => s

/-- The turn goes back to the partner after the TURN of a reply burst (R152). -/
def State.passTurnBack (s : State) (c : Conn) : State :=
  s.setPli { s.pli with
    conn := some { c with turn := .partner, bursts := c.bursts + 1, deadline := some (s.now + 50) }, sending := [] }

/-- REPLY_BURST_END_SENT: TURN passes the turn back; END ends the connection (R152, R154). An END that followed a timeout
has then gone out (log 16). -/
def burstEndSent (s : State) : State :=
  match s.openConn, OutFrame.afterReplies s.pli.sending with
  | some c, [.turn] => if c.kind = .master then s.passTurnBack c else s
  | some _, [.endFrame] => s.endConn
  | none, [.endFrame] => s.setPli { s.pli with sending := [] }
  | _, _ => s

/-! ## The meanings -/

/-- REQUEST_FRAME_RECEIVED (R150, R158, R161). -/
def execRequestFrameReceived (raw : RawFrame) (s : State) : Host.Outcome State Fault Refusal := live (receive raw) s

/-- FRAME_DISCARDED (R158, R160, R161). -/
def execFrameDiscarded (raw : RawFrame) (s : State) : Host.Outcome State Fault Refusal := live (receive raw) s

/-- FILL (R150). -/
def execFill (raw : RawFrame) (s : State) : Host.Outcome State Fault Refusal := live (receive raw) s

/-- TURN (R151, R152). -/
def execTurn (raw : RawFrame) (s : State) : Host.Outcome State Fault Refusal := live (receive raw) s

/-- END (R147, R150). -/
def execEndFrame (raw : RawFrame) (s : State) : Host.Outcome State Fault Refusal := live (takeEnd raw) s

/-- SELECT (R149). -/
def execSelect (raw : RawFrame) (s : State) : Host.Outcome State Fault Refusal := live (takeSelect raw) s

/-- SELECTION_COMPLETE (R149, R168). -/
def execSelectionComplete (s : State) : Host.Outcome State Fault Refusal := live completeSelection s

/-- SLOT_REPLY_DELIVERED (R152, R153, R154). -/
def execSlotReplyDelivered (s : State) : Host.Outcome State Fault Refusal := live slotReplySent s

/-- REPORT_SENT (R152). -/
def execReportSent (s : State) : Host.Outcome State Fault Refusal := live reportSent s

/-- REPLY_BURST_END_SENT (R152, R154). -/
def execReplyBurstEndSent (s : State) : Host.Outcome State Fault Refusal := live burstEndSent s

/-- ARBITRATION (R148). -/
def execArbitration (masters : List (BitVec 4)) (s : State) : Host.Outcome State Fault Refusal :=
  live (takeArbitration masters) s

/-- RESELECTION (R154). -/
def execReselection (s : State) : Host.Outcome State Fault Refusal := live reselect s

/-- SELECT_ACK (R154, R155, R168). -/
def execSelectAck (raw : RawFrame) (s : State) : Host.Outcome State Fault Refusal := live (takeSelectAck raw) s

/-- RESELECTION_TIMEOUT (R155). -/
def execReselectionTimeout (arrival : Nat) (s : State) : Host.Outcome State Fault Refusal := live (passReselection arrival) s

/-- TURN_TIMEOUT (R156). -/
def execTurnTimeout (arrival : Nat) (s : State) : Host.Outcome State Fault Refusal := live (passTurn arrival) s

/-- LINE_RESET (R157). -/
def execLineReset (receiving : Bool) (s : State) : Host.Outcome State Fault Refusal := live (takeLineReset receiving) s

/-- LINE_RESET_RELEASE (R157). -/
def execLineResetRelease (s : State) : Host.Outcome State Fault Refusal := live releaseLine s

/-- LINE_IDLE_TIMEOUT (R157). -/
def execLineIdleTimeout (arrival : Nat) (s : State) : Host.Outcome State Fault Refusal := live (passIdle arrival) s

end Sys2Proof.Machine
end

