-- ==== Sys2Proof/Machine/Power.lean ====
section
/-! DEFINITION. Power-on and the reset input (R40, R146 and the power-on rules of every chapter). -/

namespace Sys2Proof.Machine

/-- A bay restored from its store record (R40). -/
def restoreBay (r : StoreRec) : Bay :=
  if r.good then
    match r.contents with
    | .cleared => Bay.initial
    | .calibration z sc => { Bay.initial with zero := z, scale := sc }
    | .definition v z sc => { Bay.initial with state := .hold, vessel := some v, zero := z, scale := sc }
  else Bay.initial

/-- All bays restored (R40). -/
def restoreBays (r : Vector StoreRec 8) : Vector Bay 8 :=
  #v[restoreBay r[0], restoreBay r[1], restoreBay r[2], restoreBay r[3],
     restoreBay r[4], restoreBay r[5], restoreBay r[6], restoreBay r[7]]

/-- Every block at its power-on value, the alarm set cleared; the Definition Store, the levels of the inputs and the
clock stay (R21, R40, R44, R83, R98, R114, R133, R136, R147, R166, R176, R178). -/
def State.defaults (s : State) (store : Store) : State :=
  { s with
    pli := { }
    nodes := Vector.replicate 12 { }
    units := []
    bays := restoreBays store.recs
    store := store
    channels := Vector.replicate 8 Channel.initial
    feeds := Vector.replicate 8 none
    valves := Vector.replicate 8 false
    waits := []
    batches := BatchTable.initial
    interlock := { s.interlock with flag := false }
    alarms := AlarmSet.cleared
    params := { }
    lastReply := none }

/-- The start: defaults, POWER_ON counted once, STORE_LOST for each record that fails its check, ESTOP_ON where the
E-stop input reads ASSERTED (R40, R136, R176). -/
def startUp (s : State) : State :=
  let s1 := (s.defaults s.store.cutShort).alarm .powerOn none
  let s2 := allBays.foldl (fun t b => if t.store.recs[b].good then t else t.alarm .storeLost (some b.val)) s1
  if s2.interlock.estop then s2.alarm .estopOn none else s2

/-- The PLI abandons the connection on its side; its delivery list and line state are of no effect until the release
(R146). -/
def Pli.silenced (p : Pli) : Pli := { line := p.line, delivery := p.delivery }

/-- The assertion of the reset input: every valve is commanded closed, a store write is cut short, and the connection
is abandoned (R146). -/
def assertReset (s : State) : State :=
  if s.inReset then s
  else
    { s with inReset := true, valves := Vector.replicate 8 false, store := s.store.cutShort, pli := s.pli.silenced }

/-- RESET_ASSERT (R146). -/
def execResetAssert (s : State) : Host.Outcome State Fault Refusal := .next (assertReset s)

/-- RESET_RELEASE: the GX-612 starts exactly as at power-on (R146). A level that is the same as before is not an
event. -/
def execResetRelease (s : State) : Host.Outcome State Fault Refusal :=
  .next (if s.inReset then startUp { s with inReset := false } else s)

/-- POWER_ON: a power loss and the power-on that follows, in whatever state it finds the GX-612 (R21, R40, R83, R98,
R114). -/
def execPowerOn (s : State) : Host.Outcome State Fault Refusal := .next (startUp s)

end Sys2Proof.Machine
end

