-- ==== Sys2Proof/Machine/Weighing.lean ====
section
/-! DEFINITION. Samples, channel state, windows and settled readings, and the passing of silence and settle deadlines
(Chapter 3). -/

namespace Sys2Proof.Machine

/-! ## Loss and return of a channel (R46, R48, R49, R58) -/

/-- The channel record at a loss: LOST, run 0, no silence deadline, no window (R46, R58). -/
def Channel.lose (c : Channel) : Channel := { c with state := .lost, validRun := 0, silence := none, window := none }

/-- A zero capture on the bay is released without a write (R35, R58). -/
def State.dropCapture (s : State) (b : BayIx) : State :=
  match s.store.op with
  | .capture c _ => if c = b then s.setStoreOp .idle else s
  | _ => s

/-- The loss handed to the Vessel Bank and the Feed Controller, by the bay's state (R27, R48, R60, R81). -/
def State.handLoss (s : State) (b : BayIx) : State :=
  match (s.bay b).state with
  | .settling => s.setBay b { s.bay b with state := .hold }
  | .ready => s.setBay b { s.bay b with state := .hold }
  | .feeding =>
    match s.feed b with
    | none => s
    | some f =>
      (s.setFeed b (some { f with weightKept := false })).setBay b { s.bay b with book := f.bookFigure }
  | .closing => (s.bookByEstimate b).leaveClosing b
  | _ => s

/-- A channel in OK goes LOST: CHANNEL_LOST is counted, a window ends without a reading, and the loss is handed on
(R46, R48, R58). -/
def State.loseChannel (s : State) (b : BayIx) : State :=
  (((s.setChannel b (s.channel b).lose).alarm .channelLost (some b.val)).dropCapture b).handLoss b

/-- A channel goes OK: a HOLD bay goes to SETTLING with a BASELINE window, and a feed in FEEDING leaves estimate mode
(R27, R49, R60). -/
def State.returnChannel (s : State) (b : BayIx) : State :=
  let s1 := s.setChannel b { s.channel b with state := .ok }
  match (s1.bay b).state with
  | .hold => s1.enterService b
  | .feeding =>
    match s1.feed b with
    | none => s1
    | some f => (s1.setFeed b (some { f with weightKept := true })).setBay b { s1.bay b with book := (s1.bay b).net }
  | _ => s1

/-! ## Windows (R55, R56, R57) -/

/-- A completed zero capture: the mean becomes the zero, the scale sent becomes the scale, and the calibration-only
write starts (R35, R57). DESIGN CHOICE (log 26), unsafe: the 30 ms within which that write ends are counted from the
capture's completion; R39 counts them from the request, and no rule bounds this write from there. -/
def State.finishCapture (s : State) (b : BayIx) (codes : List Nat) : State :=
  match s.store.op with
  | .capture c scale =>
    if c = b then
      (s.setBay b { s.bay b with zero := mean8 codes, scale := scale }).beginWrite b (.calibration (mean8 codes) scale)
    else s
  | _ => s

/-- The reading of a window is delivered by its purpose (R59). -/
def State.deliverReading (s : State) (b : BayIx) (p : WindowPurpose) (gross : Nat) (unstable : Bool) : State :=
  match p with
  | .baseline => s.deliverBaseline b gross
  | .feedEnd => s.deliverFeedEnd b gross unstable
  | .zeroCapture => s

/-- A full set of eight: a settled reading where the spread is within the band, the next set where it is not and set 4
has not been reached, and an unstable reading at set 4 (R55, R56). -/
def State.judgeSet (s : State) (b : BayIx) (w : Window) (xs : List Nat) : State :=
  let ended := s.setChannel b { s.channel b with window := none }
  if spread xs ≤ w.band.getD 0 then ended.deliverReading b w.purpose (mean8 xs) false
  else if w.setNo < 4 then
    s.setChannel b { s.channel b with
      window := some { w with setNo := w.setNo + 1, band := some s.params.stabilityBand, samples := [] } }
  else (ended.alarm .unstableReading (some b.val)).deliverReading b w.purpose (mean8 xs) true

/-- A valid sample reaches the window of its channel: in phase AVERAGE its gross, or its raw code for a zero capture, is
collected (R54, R55, R57). -/
def State.collect (s : State) (b : BayIx) (raw gross : Nat) : State :=
  match (s.channel b).window with
  | none => s
  | some w =>
    match w.phase with
    | .wait => s
    | .average =>
      let xs := w.samples ++ [if w.purpose = .zeroCapture then raw else gross]
      if xs.length < 8 then s.setChannel b { s.channel b with window := some { w with samples := xs } }
      else if w.purpose = .zeroCapture then
        (s.setChannel b { s.channel b with window := none }).finishCapture b xs
      else s.judgeSet b w xs

/-! ## Samples (R45, R50, R52) -/

/-- The overfill watch: a valid sample on a FEEDING bay whose live net has reached max fill ends the feed FULL
(R52, R75). -/
def State.watchOverfill (s : State) (b : BayIx) : State :=
  if (s.bay b).state = .feeding ∧ ((s.bay b).maxFill).getD 0 ≤ s.liveNet b then s.endFeed b .full else s

/-- What every valid sample does to the channel record: gross, under flag, silence deadline, run (R45, R50). -/
def Channel.heard (c : Channel) (now gross : Nat) (under : Bool) : Channel :=
  { c with lastGross := gross, under := under, silence := some (now + 200), validRun := min 10 (c.validRun + 1) }

/-- A valid raw code (R45, R50). In OK, and at the sample that brings the run to 10, it is used for the overfill watch
and for the window. -/
def State.validSample (s : State) (b : BayIx) (raw : Nat) : State :=
  let g := grossOf raw (s.bay b).zero (s.bay b).scale
  let s1 := s.setChannel b ((s.channel b).heard s.now g.1 g.2)
  if (s.channel b).state = .ok then (s1.watchOverfill b).collect b raw g.1
  else if 9 ≤ (s.channel b).validRun then (s1.returnChannel b).watchOverfill b
  else s1

/-- An invalid sample: an OK channel goes LOST, another loses its run (R45, R46). -/
def State.invalidSample (s : State) (b : BayIx) : State :=
  if (s.channel b).state = .ok then s.loseChannel b
  else s.setChannel b { s.channel b with validRun := 0, silence := none }

/-- A sample: a raw code of 0 to 16,777,214 is valid; the saturated code and a converter fault are not (R45). -/
def takeSample (b : BayIx) (x : SampleIn) (s : State) : State :=
  match x with
  | .code raw => if raw < 16777215 then s.validSample b raw else s.invalidSample b
  | .converterFault => s.invalidSample b

/-! ## Deadlines (R46, R47, R54) -/

/-- The passing of a silence deadline (R46, R47). -/
def passSilence (b : BayIx) (arrival : Nat) (s : State) : State :=
  let s1 := s.advance arrival
  if s1.passed (s1.channel b).silence then s1.invalidSample b else s1

/-- The passing of a settle deadline: the window goes to phase AVERAGE with set 1 and the band as it stands (R54). -/
def passSettle (b : BayIx) (arrival : Nat) (s : State) : State :=
  let s1 := s.advance arrival
  match (s1.channel b).window with
  | none => s1
  | some w =>
    if w.phase = .wait ∧ s1.passed w.settleDeadline = true then
      s1.setChannel b { s1.channel b with
        window := some { w with phase := .average, setNo := 1,
                                band := some s1.params.stabilityBand, samples := [] } }
    else s1

/-! ## The meanings -/

/-- SAMPLE (R45 to R61). -/
def execSample (b : BayIx) (x : SampleIn) (s : State) : Host.Outcome State Fault Refusal := live (takeSample b x) s

/-- SILENCE_DEADLINE (R46, R47). -/
def execSilenceDeadline (b : BayIx) (arrival : Nat) (s : State) : Host.Outcome State Fault Refusal :=
  live (passSilence b arrival) s

/-- SETTLE_DEADLINE (R54). -/
def execSettleDeadline (b : BayIx) (arrival : Nat) (s : State) : Host.Outcome State Fault Refusal :=
  live (passSettle b arrival) s

end Sys2Proof.Machine
end

