-- ==== Sys2Proof/Machine/Time.lean ====
section
/-! DEFINITION. What the block does on its own: a millisecond passes on an empty queue, and the deadlines that it
reaches, the arbitration the PLI wants and the reselection it has won become commands (log 2, log 3). -/

namespace Sys2Proof.Machine

/-- A command is due when a condition on the state holds. -/
def dueIf (b : Bool) (c : Instr) : List Instr := if b then [c] else []

/-- The settle deadline of a channel's window in phase WAIT (R53, R54). -/
def State.settleDeadline? (s : State) (b : BayIx) : Option Nat :=
  match (s.channel b).window with
  | some w => if w.phase = .wait then w.settleDeadline else none
  | none => none

/-- The hold deadline of the feed on a bay (R72). -/
def State.holdDeadline? (s : State) (b : BayIx) : Option Nat := (s.feed b).bind (·.holdDeadline)

/-- The latest end of a store write (R39). -/
def State.writeDeadline? (s : State) : Option Nat :=
  match s.store.op with
  | .writing _ _ latest => some latest
  | _ => none

/-- The turn deadline of the PLI's own connection while the partner holds the turn (R156). -/
def State.turnDeadline? (s : State) : Option Nat :=
  match s.openConn with
  | some c => if c.partnersTurn then c.deadline else none
  | none => none

/-- The deadline of a reselection that waits for its SELECT_ACK (R155). -/
def State.reselectionDeadline? (s : State) : Option Nat :=
  if s.pli.line = .selecting ∧ s.pli.conn.isSome = true then s.pli.selectDeadline else none

/-- The PLI wants a FREE line (R148). -/
def State.wantsLine (s : State) : Bool := s.pli.line == .free && s.pli.delivery != []

/-- The PLI has won the line and has not yet sent SELECT (R154). -/
def State.hasWon (s : State) : Bool := s.pli.line == .selecting && s.pli.winner == some 0 && s.pli.following

/-- The commands that are due now, in the order in which they join the queue (log 3). -/
def State.dueCommands (s : State) : List Instr :=
  allBays.flatMap (fun b => dueIf (s.passed (s.channel b).silence) (.silenceDeadline b s.now))
    ++ allBays.flatMap (fun b => dueIf (s.passed (s.settleDeadline? b)) (.settleDeadline b s.now))
    ++ allBays.flatMap (fun b => dueIf (s.passed (s.holdDeadline? b)) (.holdDeadline b s.now))
    ++ allBays.flatMap (fun b => dueIf (s.passed (s.bay b).closeWatch) (.closeWatchExpiry b s.now))
    ++ allNodes.flatMap (fun n => dueIf (s.passed ((s.entry n).map (·.deadline))) (.waitDeadline n s.now))
    ++ dueIf (s.passed s.reselectionDeadline?) (.reselectionTimeout s.now)
    ++ dueIf (s.passed s.turnDeadline?) (.turnTimeout s.now)
    ++ dueIf (s.passed s.writeDeadline?) .storeWriteEnd
    ++ dueIf s.wantsLine (.arbitration [])
    ++ dueIf s.hasWon .reselection

/-- The PLI lets go of the claim pair when its 2 ms have passed (R157). -/
def State.dropClaim (s : State) : State :=
  if s.passed s.pli.claimHold then s.setPli { s.pli with claimHold := none } else s

/-- One millisecond passes (log 2). While the reset input is asserted nothing else happens (R146). -/
def tick (s : State) : State :=
  let s1 := { s with now := s.now + 1 }
  if s1.inReset then s1
  else
    let s2 := s1.dropClaim
    { s2 with pending := s2.pending ++ s2.dueCommands }

end Sys2Proof.Machine
end

