-- ==== Sys2Proof/Machine/Dispatch.lean ====
section
/-! DEFINITION. One arm per command, each a direct call of its meaning. -/

namespace Sys2Proof.Machine

def exec (i : Instr) (s : State) : Host.Outcome State Fault Refusal :=
  match i with
  | .replyLimit node tag bytes => Sys2Proof.Machine.execReplyLimit node tag bytes s
  | .linkStats node tag addr => Sys2Proof.Machine.execLinkStats node tag addr s
  | .feedOpen node tag => Sys2Proof.Machine.execFeedOpen node tag s
  | .feedProgress node tag flow => Sys2Proof.Machine.execFeedProgress node tag flow s
  | .feedClose node tag flow => Sys2Proof.Machine.execFeedClose node tag flow s
  | .feedCancel node tag => Sys2Proof.Machine.execFeedCancel node tag s
  | .feedOutcome node tag => Sys2Proof.Machine.execFeedOutcome node tag s
  | .degasEnd node tag outcome => Sys2Proof.Machine.execDegasEnd node tag outcome s
  | .foamOpen node tag cls => Sys2Proof.Machine.execFoamOpen node tag cls s
  | .foamResume node tag => Sys2Proof.Machine.execFoamResume node tag s
  | .foamClose node tag => Sys2Proof.Machine.execFoamClose node tag s
  | .batchQuery node tag line slot => Sys2Proof.Machine.execBatchQuery node tag line slot s
  | .vesselQuery node tag bay => Sys2Proof.Machine.execVesselQuery node tag bay s
  | .alarmRead node tag group => Sys2Proof.Machine.execAlarmRead node tag group s
  | .permit node tag value => Sys2Proof.Machine.execPermit node tag value s
  | .vesselRetire node tag bay => Sys2Proof.Machine.execVesselRetire node tag bay s
  | .vesselClearFault node tag bay => Sys2Proof.Machine.execVesselClearFault node tag bay s
  | .linkOptions node tag options => Sys2Proof.Machine.execLinkOptions node tag options s
  | .announce node tag unit category refr charge foam => Sys2Proof.Machine.execAnnounce node tag unit category refr charge foam s
  | .degasBegin node tag unit cls => Sys2Proof.Machine.execDegasBegin node tag unit cls s
  | .cabinetAdmit node tag unit cls => Sys2Proof.Machine.execCabinetAdmit node tag unit cls s
  | .unitQuery node tag unit => Sys2Proof.Machine.execUnitQuery node tag unit s
  | .unitRelease node tag unit => Sys2Proof.Machine.execUnitRelease node tag unit s
  | .vesselMount node tag bay vessel cls capacity tare => Sys2Proof.Machine.execVesselMount node tag bay vessel cls capacity tare s
  | .calibrate node tag bay zeroAt scale => Sys2Proof.Machine.execCalibrate node tag bay zeroAt scale s
  | .calibrateZeroCapture node tag bay scale => Sys2Proof.Machine.execCalibrateZeroCapture node tag bay scale s
  | .setParam node tag id value => Sys2Proof.Machine.execSetParam node tag id value s
  | .setExpect node tag category cls grams => Sys2Proof.Machine.execSetExpect node tag category cls grams s
  | .setDigest node tag items => Sys2Proof.Machine.execSetDigest node tag items s
  | .requestFrameReceived raw => Sys2Proof.Machine.execRequestFrameReceived raw s
  | .frameDiscarded raw => Sys2Proof.Machine.execFrameDiscarded raw s
  | .fill raw => Sys2Proof.Machine.execFill raw s
  | .turn raw => Sys2Proof.Machine.execTurn raw s
  | .endFrame raw => Sys2Proof.Machine.execEndFrame raw s
  | .select raw => Sys2Proof.Machine.execSelect raw s
  | .selectionComplete => Sys2Proof.Machine.execSelectionComplete s
  | .slotReplyDelivered => Sys2Proof.Machine.execSlotReplyDelivered s
  | .reportSent => Sys2Proof.Machine.execReportSent s
  | .arbitration contenders => Sys2Proof.Machine.execArbitration contenders s
  | .reselection => Sys2Proof.Machine.execReselection s
  | .selectAck raw => Sys2Proof.Machine.execSelectAck raw s
  | .reselectionTimeout arrival => Sys2Proof.Machine.execReselectionTimeout arrival s
  | .turnTimeout arrival => Sys2Proof.Machine.execTurnTimeout arrival s
  | .lineReset receiving => Sys2Proof.Machine.execLineReset receiving s
  | .lineResetRelease => Sys2Proof.Machine.execLineResetRelease s
  | .lineIdleTimeout arrival => Sys2Proof.Machine.execLineIdleTimeout arrival s
  | .sample bay input => Sys2Proof.Machine.execSample bay input s
  | .silenceDeadline bay arrival => Sys2Proof.Machine.execSilenceDeadline bay arrival s
  | .settleDeadline bay arrival => Sys2Proof.Machine.execSettleDeadline bay arrival s
  | .holdDeadline bay arrival => Sys2Proof.Machine.execHoldDeadline bay arrival s
  | .waitDeadline node arrival => Sys2Proof.Machine.execWaitDeadline node arrival s
  | .switchClosed bay => Sys2Proof.Machine.execSwitchClosed bay s
  | .closeWatchExpiry bay arrival => Sys2Proof.Machine.execCloseWatchExpiry bay arrival s
  | .storeWriteEnd => Sys2Proof.Machine.execStoreWriteEnd s
  | .estopAssert => Sys2Proof.Machine.execEstopAssert s
  | .estopRelease => Sys2Proof.Machine.execEstopRelease s
  | .gasNotHealthy => Sys2Proof.Machine.execGasNotHealthy s
  | .gasHealthy => Sys2Proof.Machine.execGasHealthy s
  | .resetAssert => Sys2Proof.Machine.execResetAssert s
  | .resetRelease => Sys2Proof.Machine.execResetRelease s
  | .powerOn => Sys2Proof.Machine.execPowerOn s
  | .switchOpen bay => Sys2Proof.Machine.execSwitchOpen bay s
  | .replyBurstEndSent => Sys2Proof.Machine.execReplyBurstEndSent s

end Sys2Proof.Machine
end

