-- ==== Sys2Proof/Safety.lean ====
section
/-! DEFINITION. What a sound state of the GX-612 is: the promises the rules make about every moment, each a property
that no step breaks. -/

namespace Sys2Proof.Machine

/-! ## Unit Table (R1, R2, R5, R104, R105) -/

/-- The figures of a unit record lie in the ranges of R1, and a unit in DEGASSING names its station. -/
abbrev UnitRec.inRange (u : UnitRec) : Prop :=
  1 ≤ u.tag ∧ u.tag ≤ 99999999 ∧ u.recovered ≤ 999999 ∧ u.feedCount ≤ 255 ∧ u.abortCount ≤ 15
    ∧ (∀ r ∈ u.ratio, r ≤ 2000) ∧ (u.state = .degassing → u.station ≠ none)

/-- No two records carry one tag, at most 96 exist, their figures are in range, and no station is bound to two units
(R1, R2, R5). -/
abbrev UnitsOk (s : State) : Prop :=
  (s.units.map (·.tag)).Nodup ∧ s.units.length ≤ 96 ∧ (∀ u ∈ s.units, u.inRange)
    ∧ ∀ u ∈ s.units, ∀ v ∈ s.units,
        u.state = .degassing → v.state = .degassing → u.station = v.station → u.tag = v.tag

/-! ## Settings and counters (R133, R166, R174, R176, R178) -/

/-- A node record within the ranges of R166. -/
abbrev NodeRec.inRange (r : NodeRec) : Prop :=
  r.errCount ≤ 255 ∧ 48 ≤ r.replyLimit ∧ r.replyLimit ≤ 512 ∧ digestOk r.digest = true
    ∧ (r.digest = [] → r.cursor = 0) ∧ (r.digest ≠ [] → r.cursor < r.digest.length)

/-- The parameters within the ranges of R178. -/
abbrev Params.inRange (p : Params) : Prop :=
  5 ≤ p.holdTime ∧ p.holdTime ≤ 120 ∧ 1 ≤ p.settleTime ∧ p.settleTime ≤ 10 ∧ 1 ≤ p.stabilityBand
    ∧ p.stabilityBand ≤ 500 ∧ 100 ≤ p.grantReserve ∧ p.grantReserve ≤ 20000 ∧ 10 ≤ p.waitLimit ∧ p.waitLimit ≤ 600
    ∧ p.minRecovery ≤ 1000 ∧ p.yieldLow ≤ 1000 ∧ 1000 ≤ p.yieldHigh ∧ p.yieldHigh ≤ 2000 ∧ p.emptyThreshold ≤ 200

/-- Node records, alarm counts, parameters, expectation figures and batch numbers within their ranges. -/
abbrev SettingsOk (s : State) : Prop :=
  (∀ n : Node, (s.node n).inRange) ∧ (∀ k : Fin 21, (s.alarms.recs[k]).count ≤ 255) ∧ s.params.inRange
    ∧ (∀ k : Fin 20, 1 ≤ s.batches.expect[k] ∧ s.batches.expect[k] ≤ 9999)
    ∧ ∀ l : FoamLine, (s.line l).lastNumber ≤ 65535

/-! ## Weighing (R22, R44, R46, R53, R58) -/

/-- A window within the ranges of R44. -/
abbrev Window.inRange (w : Window) : Prop :=
  1 ≤ w.setNo ∧ w.setNo ≤ 4 ∧ w.samples.length < 8 ∧ ∀ x ∈ w.samples, w.purpose ≠ .zeroCapture → x ≤ 1000000

/-- A channel record within the ranges of R44: a run of 10 exactly in OK, and a window in OK alone. -/
abbrev Channel.inRange (c : Channel) : Prop :=
  c.validRun ≤ 10 ∧ c.lastGross ≤ 1000000 ∧ (c.state = .ok ↔ c.validRun = 10) ∧ (c.window ≠ none → c.state = .ok)
    ∧ ∀ w ∈ c.window, w.inRange

/-- Channels, nets and books within their ranges (R22, R44). -/
abbrev WeighOk (s : State) : Prop :=
  ∀ b : BayIx, (s.channel b).inRange ∧ (s.bay b).net ≤ 1000000 ∧ (s.bay b).book ≤ 1000000

/-! ## The plant line (R147, R152, R156) -/

/-- The connection of the PLI: at most seven bursts sent while it goes on, and a turn deadline exactly in the partner's
turn of a MASTER connection (R147, R152, R156). -/
abbrev Conn.inRange (c : Conn) : Prop :=
  c.bursts ≤ 7 ∧ (c.deadline ≠ none ↔ c.partnersTurn = true)

/-- The burst buffer holds at most four frames, a connection stands only on a line that is CONNECTED or SELECTING, and a
TURN is sent only before the eighth burst (R147, R152). -/
abbrev LineOk (s : State) : Prop :=
  s.pli.buffer.length ≤ 4 ∧ (∀ c ∈ s.pli.conn, c.inRange)
    ∧ (∀ c ∈ s.pli.conn, OutFrame.turn ∈ s.pli.sending → c.bursts < 7)
    ∧ (s.pli.conn ≠ none → s.pli.line = .connected ∨ s.pli.line = .selecting)
    ∧ (s.pli.acking ≠ none → s.pli.line = .selecting ∧ s.pli.conn = none)

/-! ## Pending slots, the delivery list and the Wait List (R89, R153, R169) -/

/-- The slot holds a reply that is DELIVERABLE. -/
def Slot.isDeliverable (x : Slot) : Bool :=
  match x with
  | .deliverable _ => true
  | _ => false

/-- The requests that can wait (R86). -/
def waitKinds : List ReqKind := [.feedOpen, .foamOpen, .foamResume]

/-- An entry waits for a FEED_OPEN, a FOAM_OPEN or a FOAM_RESUME, its node's slot is DEFERRED for that request, and no
node waits twice (R86, R89). The delivery list holds the DELIVERABLE nodes, each once (R153). At most one slot reply is
being sent, and it stands in its node's slot (R152). -/
abbrev SlotsOk (s : State) : Prop :=
  (s.waits.map (·.node)).Nodup
    ∧ (∀ e ∈ s.waits, e.kind ∈ waitKinds ∧ (s.node e.node).slot = .deferred e.tag e.kind)
    ∧ s.pli.delivery.Nodup ∧ (∀ n : Node, n ∈ s.pli.delivery ↔ (s.node n).slot.isDeliverable = true)
    ∧ (s.pli.sending.filter OutFrame.isSlotReply).length ≤ 1
    ∧ ∀ c ∈ s.pli.conn, s.pli.sending.any OutFrame.isSlotReply = true → ((s.node c.partner).slot.reply?).isSome = true

/-! ## Feeds, valves and interlocks (R25, R28, R63, R64, R138, R142) -/

/-- A feed record in one of its two phases: FEEDING with a hold deadline, no end cause and nothing booked, or CLOSING
with an end cause and no deadline (R63, R74). -/
abbrev Feed.phased (f : Feed) : Prop :=
  (f.state = .feeding ∧ f.holdDeadline ≠ none ∧ f.endCause = none ∧ f.booked = false)
    ∨ (f.state = .closing ∧ f.holdDeadline = none ∧ f.endCause ≠ none)

/-- A bay and its feed: a FEEDING bay has a FEEDING feed, a CLOSING bay a CLOSING one, every other bay none
(R25, R30). -/
abbrev BayFeed (s : State) (b : BayIx) : Prop :=
  (s.feed b = none → (s.bay b).state ≠ .feeding ∧ (s.bay b).state ≠ .closing)
    ∧ ∀ f ∈ s.feed b, f.phased
        ∧ ((f.state = .feeding ∧ (s.bay b).state = .feeding) ∨ (f.state = .closing ∧ (s.bay b).state = .closing))

/-- The valve of a bay is commanded open exactly while the bay's feed is in FEEDING; under reset every valve is closed
(R64, R146). -/
abbrev ValveOk (s : State) (b : BayIx) : Prop :=
  s.valve b = (!s.inReset && (s.bay b).state == .feeding)

/-- A close watch runs on a CLOSING bay alone, and a FEED_END window on a CLOSING bay whose watch has confirmed and whose
feed is not booked (R28, R30). -/
abbrev CloseOk (s : State) (b : BayIx) : Prop :=
  ((s.bay b).closeWatch ≠ none → (s.bay b).state = .closing)
    ∧ ∀ w ∈ (s.channel b).window, w.purpose = .feedEnd →
        (s.bay b).state = .closing ∧ (s.bay b).closeWatch = none ∧ ∀ f ∈ s.feed b, f.booked = false

/-- No node owns two feeds, and a waiting node owns none (R63, R89). -/
abbrev OwnersOk (s : State) : Prop :=
  (∀ b c : BayIx, ∀ f ∈ s.feed b, ∀ g ∈ s.feed c, f.owner = g.owner → b = c)
    ∧ ∀ e ∈ s.waits, ∀ b : BayIx, ∀ f ∈ s.feed b, f.owner ≠ e.node

/-- Outside reset: while the E-stop is asserted nothing is fed and nothing waits; while the permit is off nothing
flammable is fed or waits (R96, R138, R142). -/
abbrev InterlockOk (s : State) : Prop :=
  s.inReset = false →
    (s.interlock.estop = true → s.waits = [] ∧ ∀ b : BayIx, ∀ f ∈ s.feed b, f.state ≠ .feeding)
      ∧ (s.permitOn = false →
          (∀ e ∈ s.waits, flammable e.cls = false)
            ∧ ∀ b : BayIx, ∀ f ∈ s.feed b, flammable f.cls = true → f.state ≠ .feeding)

/-- Feeds, bays, valves, owners and interlocks agree. -/
abbrev FeedsOk (s : State) : Prop :=
  (∀ b : BayIx, BayFeed s b ∧ ValveOk s b ∧ CloseOk s b) ∧ OwnersOk s ∧ InterlockOk s

/-! ## Batch phases (R118) -/

/-- The foam line a feed is for; none for a unit (R63). -/
def FeedPurpose.line? (p : FeedPurpose) : Option FoamLine :=
  match p with
  | .unit _ => none
  | .batch l _ _ => some l

/-- The foam line an entry waits for; none for a unit (R86). -/
def WaitPurpose.line? (p : WaitPurpose) : Option FoamLine :=
  match p with
  | .unit _ => none
  | .batch l _ => some l

/-- The current slot of a line holds the batch of a number in a state. -/
def State.batchIs (s : State) (l : FoamLine) (st : BatchState) (number : Nat) : Bool :=
  match (s.line l).current with
  | some bt => bt.state == st && bt.number == number
  | none => false

/-- A FEEDING feed of a batch runs for the batch that is OPEN in its line's current slot (R118). -/
def Feed.inPhase (s : State) (f : Feed) : Bool :=
  match f.purpose with
  | .unit _ => true
  | .batch l number _ => f.state != .feeding || s.batchIs l .opened number

/-- An entry of a batch waits for the batch that is WAITING_FEED in its line's current slot (R118). -/
def WaitEntry.inPhase (s : State) (e : WaitEntry) : Bool :=
  match e.purpose with
  | .unit _ => true
  | .batch l number => s.batchIs l .waitingFeed number

/-- A node owns a feed in FEEDING. -/
def State.isFeeding (s : State) (n : Node) : Bool :=
  allBays.any (fun b => (s.feed b).any (fun f => f.state == .feeding && f.owner == n))

/-- Feeds and entries are for the line of their node alone; a current batch is OPEN exactly while its line owns a feed in
FEEDING for it, and WAITING_FEED exactly while its line has an entry (R118). -/
abbrev PhaseOk (s : State) : Prop :=
  (∀ b : BayIx, ∀ f ∈ s.feed b, f.purpose.line? = lineOfNode f.owner ∧ f.inPhase s = true)
    ∧ (∀ e ∈ s.waits, e.purpose.line? = lineOfNode e.node ∧ e.inPhase s = true)
    ∧ ∀ l : FoamLine, ∀ bt ∈ (s.line l).current,
        (bt.state = .opened → s.isFeeding (nodeOfLine l) = true)
          ∧ (bt.state = .waitingFeed → (s.entry (nodeOfLine l)).isSome = true)

/-! ## Settled batches (R109) -/

/-- A completed batch: the shares of its cabinets and its unassigned mass add up to its total gain (R109). -/
abbrev Batch.addsUp (b : Batch) : Prop :=
  b.state = .settled ∧ (b.cabinets.map (fun c => c.share.getD 0)).sum + b.unassigned.getD 0 = b.total.getD 0

/-- Every previous slot adds up; every cabinet of a current slot and every expectation figure weighs at least 1 g
(R109, R115, R133). -/
abbrev BatchesOk (s : State) : Prop :=
  (∀ k : Fin 20, 1 ≤ s.batches.expect[k])
    ∧ ∀ l : FoamLine, (∀ b ∈ (s.line l).previous, b.addsUp)
        ∧ ∀ b ∈ (s.line l).current, ∀ c ∈ b.cabinets, 1 ≤ c.weight

/-! ## Closed forms of a feed end, for the statements (R28, R30, R53, R74, R81) -/

/-- The unit a feed is for (R63). -/
def FeedPurpose.unit? (p : FeedPurpose) : Option Nat :=
  match p with
  | .unit tag => some tag
  | .batch _ _ _ => none

/-- The unit an entry waits for (R86). -/
def WaitPurpose.unit? (p : WaitPurpose) : Option Nat :=
  match p with
  | .unit tag => some tag
  | .batch _ _ => none

/-- The slot is DEFERRED for a request of a kind (R169). -/
def Slot.awaits (x : Slot) (k : ReqKind) : Bool :=
  match x with
  | .deferred _ k' => k' == k
  | _ => false

/-- The window of a purpose as it opens at `now` with a settle time in seconds (R53). -/
def Window.opened (p : WindowPurpose) (now settle : Nat) : Window :=
  { purpose := p, phase := .wait, settleDeadline := some (now + 1000 * settle), setNo := 1, band := none, samples := [] }

/-- What the end of feed `f` on bay `b` with cause `c` leaves where the channel is OK: the feed and the bay CLOSING, the
valve closed, the cause in the owner's outcome field; the close watch runs 2 s, or the FEED_END window opens at once
where the switch reads closed (R28, R53, R74). -/
def State.endsWeighed (s : State) (b : BayIx) (f : Feed) (c : EndCause) : State :=
  let s1 := s.setFeed b (some { f with state := .closing, endCause := some c, holdDeadline := none })
  let s2 := s1.setValve b false
  let s3 := s2.setNode f.owner { s.node f.owner with
    outcome := (s.node f.owner).outcome.map (fun o => { o with endCause := some c, settled := false }) }
  if s.switch b then
    (s3.setBay b { s.bay b with state := .closing, closeWatch := none }).setChannel b { s.channel b with
      window := some (Window.opened .feedEnd s.now s.params.settleTime) }
  else s3.setBay b { s.bay b with state := .closing, closeWatch := some (s.now + 2000) }

/-- What the end of a feed leaves where the channel is not OK, but for the record the gain is booked to: the estimate is
in the owner's outcome field and in net and book; the bay waits in CLOSING for its switch, or is in HOLD with the feed
freed where the switch reads closed (R30, R74, R81). -/
def State.endsUnweighed (s : State) (b : BayIx) (f : Feed) (c : EndCause) : State :=
  let held := min 1000000 (f.startNet + f.estimate)
  let s1 := s.setValve b false
  let s2 := s1.setNode f.owner { s.node f.owner with
    outcome := (s.node f.owner).outcome.map (fun o => { o with
      endCause := some c, settled := true, gain := some f.estimate, estimated := true }) }
  if s.switch b then
    (s2.setFeed b none).setBay b { s.bay b with
      state := .hold, closeWatch := none, net := held, book := held, source := .estimated }
  else
    (s2.setFeed b (some { f with
      state := .closing, endCause := some c, holdDeadline := none, weightKept := false, booked := true })).setBay b
      { s.bay b with
        state := .closing, closeWatch := some (s.now + 2000), net := held, book := held, source := .estimated }

/-- What the end of a unit's feed leaves where the channel is not OK: the same, with the estimate booked to the unit
(R10, R81). -/
def State.endsEstimated (s : State) (b : BayIx) (f : Feed) (c : EndCause) (unit : Nat) : State :=
  (s.modUnit unit (fun u => { u with
    recovered := min 999999 (u.recovered + f.estimate), feedCount := min 255 (u.feedCount + 1),
    estimated := true })).endsUnweighed b f c

/-- The end of a feed as its batch sees it: the cause in its segment, and the batch STALLED unless the cause is CLOSED
(R122). -/
def State.segmentEnds (s : State) (l : FoamLine) (number k : Nat) (c : EndCause) : State :=
  s.modCurrent l (fun bt =>
    if bt.number = number then
      { bt with
        segments := modifyAt (fun x => { x with endCause := some c }) bt.segments (k - 1)
        state := if c = .closed then bt.state else .stalled }
    else bt)

/-- The end of a feed as the record of its purpose sees it: a unit is not told, a batch is (R74, R122). -/
def State.purposeEnds (s : State) (p : FeedPurpose) (c : EndCause) : State :=
  match p with
  | .unit _ => s
  | .batch l number k => s.segmentEnds l number k c

/-- A settled net taken into a bay that goes to state `st`: net and book take it and it counts as weighed. A net that an
estimated booking wrote last is reconciled: the discrepancy against the book stays in unreconciled and is the value of
CHANNEL_RESTORED (R26, R59, R61; log 7). -/
def State.netTaken (s : State) (b : BayIx) (st : BayState) (net : Nat) : State :=
  let gap : Int := (net : Int) - ((s.bay b).book : Int)
  if (s.bay b).source = .estimated then
    (s.setBay b { s.bay b with
      state := st, net := net, book := net, source := .settled, unreconciled := gap }).alarm .channelRestored
        (some b.val) gap
  else s.setBay b { s.bay b with state := st, net := net, book := net, source := .settled }

/-! ## Closed forms of a batch's completion, for the statements (R106-R113, R130) -/

/-- G: the gains of the segments added up, saturated (R106). -/
def Batch.grams (bt : Batch) : Nat := min 1000000 (bt.segments.map (fun g => g.gain.getD 0)).sum

/-- The yield: G times 1,000 over the sum of the foam weights, rounded half up and saturated; none without cabinets
(R111). -/
def Batch.perMille (bt : Batch) : Option Nat :=
  let w := (bt.cabinets.map (·.weight)).sum
  if bt.cabinets = [] then none else some (min 2000 ((2 * (bt.grams * 1000) + w) / (2 * w)))

/-- The yield lies below its lower limit, or above its upper one (R112). -/
def Batch.isLow (bt : Batch) (p : Params) : Bool := bt.perMille.any (fun y => decide (y < p.yieldLow))
def Batch.isHigh (bt : Batch) (p : Params) : Bool := bt.perMille.any (fun y => decide (p.yieldHigh < y))

/-- The record of the completed batch (R108, R110, R112, R130). -/
def Batch.done (bt : Batch) (p : Params) : Batch :=
  { bt with
    state := .settled
    cabinets := List.zipWith (fun c sh => { c with share := some sh }) bt.cabinets
      (splitShares bt.grams (bt.cabinets.map (·.weight)))
    total := some bt.grams
    unassigned := some (if bt.cabinets = [] then bt.grams else 0)
    yield := bt.perMille
    marks := { bt.marks with
      yieldLow := bt.marks.yieldLow || bt.isLow p, yieldHigh := bt.marks.yieldHigh || bt.isHigh p } }

/-- The completion body of a batch: G, the yield, the number of cabinets (R130). -/
def Batch.doneBody (bt : Batch) : Body := .completion bt.grams bt.perMille bt.cabinets.length

/-- What the completion of batch `bt` on line `l` leaves, but for the reply: the record in the previous slot, the current
slot NONE, each cabinet's unit CLOSED with its share, and the yield's alarm (R18, R112, R113, R130). -/
def State.batchDone (s : State) (l : FoamLine) (bt : Batch) : State :=
  let s1 := s.setLine l { s.line l with current := none, previous := some (bt.done s.params) }
  let s2 := s1.setUnits ((bt.done s.params).cabinets.foldl (fun us c => us.map (fun u =>
    if u.tag = c.tag then { u with state := .closed, foamShare := c.share } else u)) s.units)
  if bt.isLow s.params then s2.alarm .yieldLow (some (lineNumber l))
  else if bt.isHigh s.params then s2.alarm .yieldHigh (some (lineNumber l))
  else s2

/-- The batch with the gain of segment `k` written in (R107, R116). -/
def Batch.segmentBooked (bt : Batch) (k gain : Nat) (estimated unstable : Bool) : Batch :=
  { bt with
    segments := modifyAt (fun x => { x with settled := true, gain := some gain, estimated := estimated }) bt.segments
      (k - 1)
    marks := { bt.marks with
      estimated := bt.marks.estimated || estimated, unstable := bt.marks.unstable || unstable } }

/-- The batch after the end of its feed `k` with the channel out: the cause and the estimate in the segment, the batch
STALLED unless the cause is CLOSED, the ESTIMATED mark (R81, R107, R116, R122). -/
def Batch.segmentLost (bt : Batch) (k : Nat) (c : EndCause) (gain : Nat) : Batch :=
  Batch.segmentBooked { bt with
    segments := modifyAt (fun x => { x with endCause := some c }) bt.segments (k - 1)
    state := if c = .closed then bt.state else .stalled } k gain true false

/-! ## Closed forms of grants, entries and slots, for the statements (R67, R89-R96, R153) -/

/-- The deferred reply of a node's slot becomes DELIVERABLE with status OK and a body, its address at the tail of the
delivery list (R80, R130, R153). -/
def State.released (s : State) (n : Node) (tag : Nat) (k : ReqKind) (body : Body) : State :=
  (s.setNode n { s.node n with slot := .deliverable { tag := tag, kind := k, status := .ok, body := body } }).setPli
    { s.pli with delivery := s.pli.delivery ++ [n] }

/-- The gain of a feed in its owner's outcome field (R80, R81). -/
def State.gainTold (s : State) (n : Node) (gain : Nat) (estimated : Bool) : State :=
  s.setNode n { s.node n with
    outcome := (s.node n).outcome.map (fun o => { o with
      settled := true, gain := some gain, estimated := estimated }) }

/-- What the grant of bay `b` to node `n` leaves: the feed, the bay FEEDING, the valve open, the outcome field replaced
(R67). -/
def State.granted (s : State) (b : BayIx) (n : Node) (p : FeedPurpose) (g : GasClass) : State :=
  let f : Feed :=
    { owner := n, purpose := p, cls := g, state := .feeding, startNet := (s.bay b).net, estimate := 0,
      weightKept := true, holdDeadline := some (s.now + 1000 * s.params.holdTime), endCause := none, booked := false }
  let s1 := ((s.setFeed b (some f)).setBay b { s.bay b with state := .feeding }).setValve b true
  s1.setNode n { s.node n with
    outcome := some { bay := b, endCause := none, settled := false, gain := none, estimated := false } }

/-- What an entry's removal without a grant leaves: the entry gone, its node's slot DELIVERABLE with a status and no
body, the node at the tail of the delivery list (R92, R94, R96, R153). -/
def State.removed (s : State) (e : WaitEntry) (st : Status) : State :=
  ((s.setWaits (s.waits.filter (fun x => x.node != e.node))).setNode e.node { s.node e.node with
    slot := .deliverable { tag := e.tag, kind := e.kind, status := st, body := .none } }).setPli
      { s.pli with delivery := s.pli.delivery ++ [e.node] }

/-- What the grant of READY bay `b` to the waiting entry `e` leaves: the entry gone, the feed, a batch OPEN with its next
segment, and the node's slot DELIVERABLE with OK and the grant body (R67, R91, R121, R153). -/
def State.entryServed (s : State) (b : BayIx) (e : WaitEntry) : State :=
  let body : Body := .grant b (((s.bay b).vessel.map (·.id)).getD 0) (((s.bay b).headroom).getD 0)
  let rest := s.setWaits (s.waits.filter (fun x => x.node != e.node))
  match e.purpose with
  | .unit tag => (rest.granted b e.node (.unit tag) e.cls).released e.node e.tag e.kind body
  | .batch l number =>
    let k := ((s.line l).current.map (fun bt => bt.segments.length)).getD 0 + 1
    ((rest.granted b e.node (.batch l number k) e.cls).modCurrent l (fun bt => { bt with
      state := .opened
      segments := bt.segments ++ [
        { bay := b, endCause := none, settled := false, gain := none, estimated := false }] })).released e.node e.tag
          e.kind body

/-- Bay `b` can serve an entry: its vessel class accepts the gas, and flammable gas is allowed (R23, R90). -/
def State.canServe (s : State) (b : BayIx) (e : WaitEntry) : Bool :=
  (s.bay b).vessel.any (fun v => decide ((v.cls = e.cls ∨ v.cls = .mx) ∧
    (e.cls = .hc ∨ e.cls = .mx → s.permitOn = true ∧ s.interlock.estop = false)))

/-- What a grant scan of bay `b` leaves: the oldest entry the bay can serve is granted, where there is one (R90). -/
def State.oldestServed (s : State) (b : BayIx) : State :=
  match s.waits.find? (s.canServe b) with
  | none => s
  | some e => s.entryServed b e

/-- What a request that waits leaves: its entry at the tail, its node's slot DEFERRED (R89). -/
def State.waiting (s : State) (n : Node) (tag : Nat) (k : ReqKind) (g : GasClass) (p : WaitPurpose) : State :=
  (s.setWaits (s.waits ++ [{ node := n, tag := tag, kind := k, cls := g, purpose := p,
                             deadline := s.now + 1000 * s.params.waitLimit }])).setNode n
    { s.node n with slot := .deferred tag k }

/-! ## Closed forms of a REPLY payload, for the statements (R164, R171, R175) -/

/-- One named byte of a digest item's value. -/
def namedByte (n : Nat) : Option Byte := some (BitVec.ofNat 8 n)

/-- Four named bytes that carry one number, the most significant first. -/
def namedWord (n : Nat) : List (Option Byte) :=
  [namedByte (n / 16777216), namedByte (n / 65536), namedByte (n / 256), namedByte n]

/-- 1 for yes and 0 for no, as a named byte. -/
def namedFlag (b : Bool) : Option Byte := namedByte (if b then 1 else 0)

/-- The four bytes of a digest item's value as R164 names them, byte 0 first; `none` for a byte it does not name (log 12).
The batch number of a line whose current slot is NONE is log 13; an item outside the ranges of R174 has no named byte. -/
def State.digestNamed (s : State) (item : Nat × Nat) : List (Option Byte) :=
  match item.1, bayOfArg item.2, nodeOfAddr item.2, lineOfArg item.2 with
  | 1, some b, _, _ => [none, none, none, namedByte (bayStateCode (s.bay b).state)]
  | 2, some b, _, _ => namedWord (if (s.channel b).state = .lost then (s.bay b).book else (s.bay b).net)
  | 3, some b, _, _ => namedWord (((s.bay b).headroom).getD 0xFFFFFFFF)
  | 4, some b, _, _ =>
    [none, none, namedByte (((s.feed b).map (fun f => nodeAddr f.owner)).getD 0),
     namedByte (endCauseCode ((s.feed b).bind (·.endCause)))]
  | 5, _, _, _ => [none, none, none, namedByte s.waits.length]
  | 6, _, _, _ =>
    [namedFlag s.permitOn, namedFlag s.interlock.flag, namedFlag s.interlock.healthy, namedFlag s.interlock.estop]
  | 7, _, _, _ => (List.finRange 4).map (fun g => namedFlag s.alarms.groups[g])
  | 8, _, some n, _ =>
    [namedByte 0, namedByte (presenceCode (s.node n).presence), namedFlag (s.node n).saturated,
     namedByte (s.node n).errCount]
  | 9, _, _, some l =>
    let number := (((s.line l).current.map (·.number))).getD (s.line l).lastNumber
    [namedByte (((s.line l).current.map (fun b => batchStateCode b.state)).getD 0), namedByte (number / 256),
     namedByte number, namedByte (((s.line l).current.map (fun b => b.cabinets.length)).getD 0)]
  | _, _, _, _ => [none, none, none, none]

/-- Four bytes that show a digest item: every byte R164 names reads as the state stands. -/
def State.digestShown (s : State) (item : Nat × Nat) (v : List Byte) : Bool :=
  v.length == 4 && (List.zip (s.digestNamed item) v).all (fun x => x.1.all (· == x.2))

/-- How many items go behind a head of some bytes: as many whole items of 6 bytes as fit after the count byte, at most the
whole list (R175). -/
def NodeRec.digestTaken (r : NodeRec) (head : Nat) : Nat := min r.digest.length ((r.replyLimit - head - 1) / 6)

/-- `k` items of the list from a place on, wrapping from the last to the first (R175). -/
def NodeRec.digestFrom (r : NodeRec) (start k : Nat) : List (Nat × Nat) :=
  (List.range k).map (fun i => r.digest.getD ((start + i) % r.digest.length) (0, 0))

/-- A REPLY payload to a node behind its head of status, kind and body: the digest section with its count byte and its
items from `start` on, none where the list is empty or no byte is left, and the filler of fixed-length mode up to the
reply limit (R164, R171, R175). -/
def State.payloadOk (s : State) (r : NodeRec) (head : List Byte) (start : Nat) (p : List Byte) : Prop :=
  let items := r.digestFrom start (r.digestTaken head.length)
  ∃ values : List (List Byte),
    values.length = items.length ∧ (∀ x ∈ List.zip items values, s.digestShown x.1 x.2 = true) ∧
      let shown := head ++
        if r.digest = [] ∨ r.replyLimit ≤ head.length then []
        else BitVec.ofNat 8 items.length ::
          (List.zipWith (fun i v => BitVec.ofNat 8 i.1 :: BitVec.ofNat 8 i.2 :: v) items values).flatten
      p = shown ++ if r.fixedLength then List.replicate (r.replyLimit - shown.length) 0 else []

/-! ## Further terms of the statements -/

/-- The latest moment at which a store write ends (R39; log 26). -/
def StoreOp.endsBy (o : StoreOp) : Option Nat :=
  match o with
  | .writing _ _ latest => some latest
  | _ => none

/-- The store is writing the record of a bay (R39). -/
def StoreOp.writes (o : StoreOp) (b : BayIx) : Bool :=
  match o with
  | .writing c _ _ => c == b
  | _ => false

/-- The scale sent with a zero capture that the store is engaged in for a bay (R35, R39). -/
def StoreOp.captures (o : StoreOp) (b : BayIx) : Option Nat :=
  match o with
  | .capture c scale => if c = b then some scale else none
  | _ => none

/-- The commands of the inputs, which a GX-612 under reset still follows (R136, R146). -/
def isInput (i : Instr) : Bool :=
  match i with
  | .switchClosed _ => true
  | .switchOpen _ => true
  | .estopAssert => true
  | .estopRelease => true
  | .gasNotHealthy => true
  | .gasHealthy => true
  | .resetAssert => true
  | .resetRelease => true
  | .powerOn => true
  | _ => false

end Sys2Proof.Machine
end

