-- ==== Sys2Proof/WellFormed.lean ====
section
/-! DEFINITION. Well-formed commands: operands within the widths of the line's fields (R162, R163), frame rows whose
bytes carry the row's kind, samples of 24 bits (R45), and masters that contend with addresses other than 0 (R148). -/

namespace Sys2Proof

/-- A field of one byte. -/
def fits8 (n : Nat) : Bool := decide (n < 256)

/-- A field of two bytes. -/
def fits16 (n : Nat) : Bool := decide (n < 65536)

/-- A field of four bytes. -/
def fits32 (n : Nat) : Bool := decide (n < 4294967296)

/-- The bytes carry a request kind. -/
def isRequestFrame (raw : RawFrame) : Bool :=
  match Machine.headerOf raw with
  | some h => (Machine.reqOfCode h.kind).isSome
  | none => false

/-- Well-formed commands. -/
def Instr.wf (i : Instr) : Bool :=
  match i with
  | .replyLimit _ tag bytes => fits8 tag && fits16 bytes
  | .linkStats _ tag addr => fits8 tag && fits16 addr
  | .feedOpen _ tag => fits8 tag
  | .feedProgress _ tag flow => fits8 tag && fits16 flow
  | .feedClose _ tag flow => fits8 tag && fits16 flow
  | .feedCancel _ tag => fits8 tag
  | .feedOutcome _ tag => fits8 tag
  | .degasEnd _ tag outcome => fits8 tag && fits16 outcome
  | .foamOpen _ tag cls => fits8 tag && fits16 cls
  | .foamResume _ tag => fits8 tag
  | .foamClose _ tag => fits8 tag
  | .batchQuery _ tag line slot => fits8 tag && fits8 line && fits8 slot
  | .vesselQuery _ tag bay => fits8 tag && fits16 bay
  | .alarmRead _ tag group => fits8 tag && fits16 group
  | .permit _ tag value => fits8 tag && fits16 value
  | .vesselRetire _ tag bay => fits8 tag && fits16 bay
  | .vesselClearFault _ tag bay => fits8 tag && fits16 bay
  | .linkOptions _ tag options => fits8 tag && fits16 options
  | .announce _ tag unit category refr charge foam =>
    fits8 tag && fits32 unit && fits8 category && fits8 refr && fits16 charge && fits8 foam
  | .degasBegin _ tag unit cls => fits8 tag && fits32 unit && fits8 cls
  | .cabinetAdmit _ tag unit cls => fits8 tag && fits32 unit && fits8 cls
  | .unitQuery _ tag unit => fits8 tag && fits32 unit
  | .unitRelease _ tag unit => fits8 tag && fits32 unit
  | .vesselMount _ tag bay vessel cls capacity tare =>
    fits8 tag && fits8 bay && fits16 vessel && fits8 cls && fits16 capacity && fits32 tare
  | .calibrate _ tag bay zeroAt scale => fits8 tag && fits8 bay && decide (zeroAt < 16777215) && fits16 scale
  | .calibrateZeroCapture _ tag bay scale => fits8 tag && fits8 bay && fits16 scale
  | .setParam _ tag id value => fits8 tag && fits8 id && fits16 value
  | .setExpect _ tag category cls grams => fits8 tag && fits8 category && fits8 cls && fits16 grams
  | .setDigest _ tag items => fits8 tag && fits8 items.length && items.all (fun i => fits8 i.1 && fits8 i.2)
  | .requestFrameReceived raw => isRequestFrame raw
  | .frameDiscarded _ => true
  | .fill raw => Machine.isCtrl raw .fill
  | .turn raw => Machine.isCtrl raw .turn
  | .endFrame raw => Machine.isCtrl raw .endFrame
  | .select raw => Machine.isCtrl raw .select
  | .selectionComplete => true
  | .slotReplyDelivered => true
  | .reportSent => true
  | .arbitration contenders => contenders.all (· != 0)
  | .reselection => true
  | .selectAck raw => Machine.isCtrl raw .selectAck
  | .reselectionTimeout _ => true
  | .turnTimeout _ => true
  | .lineReset _ => true
  | .lineResetRelease => true
  | .lineIdleTimeout _ => true
  | .sample _ input =>
    match input with
    | .code raw => decide (raw ≤ 16777215)
    | .converterFault => true
  | .silenceDeadline _ _ => true
  | .settleDeadline _ _ => true
  | .holdDeadline _ _ => true
  | .waitDeadline _ _ => true
  | .switchClosed _ => true
  | .closeWatchExpiry _ _ => true
  | .storeWriteEnd => true
  | .estopAssert => true
  | .estopRelease => true
  | .gasNotHealthy => true
  | .gasHealthy => true
  | .resetAssert => true
  | .resetRelease => true
  | .powerOn => true
  | .switchOpen _ => true
  | .replyBurstEndSent => true

end Sys2Proof
end

