-- ==== Sys2Proof/Certificates/Slice0/Obligations.lean ====
section
/-! DEFINITION. The statements for the provers. A record update names every field that changes; all others stand.
The queue and the field lastReply are the model's (log 1), and so is the clock `now`, which a command of a deadline moves to
its moment of arrival (log 2). -/

open Sys2Proof Sys2Proof.Machine

/-! ## The machine -/

/-- O1. The command at the front of the queue is run on the rest of the queue. The queue is the model's (log 1). -/
def Obligations.StepRunsFrontCommand : Prop :=
  ∀ (s : State) (c : Instr) (rest : List Instr),
    step { s with pending := c :: rest } = exec c { s with pending := rest }

/-- O2. The model's choice (logs 2, 3): on an empty queue one millisecond passes. Outside reset the commands it makes
due join the queue in one fixed order: the silence, settle, hold, close-watch, wait, reselection and turn deadlines it
reaches (R46, R54, R72, R29, R92, R155, R156), the end of a store write at its latest moment (R39; log 26), the PLI's
own arbitration for a FREE line and the reselection it has won (R148, R154). The PLI lets go of the claim pair when its
own hold is over (R157; log 23). Under reset nothing else happens (log 17). -/
def Obligations.TimePassesOnEmptyQueue : Prop :=
  ∀ (s : State),
    s.pending = [] →
      let now := s.now + 1
      let reached (d : Option Nat) : Bool := d.any (fun d => decide (d ≤ now))
      let settle (b : BayIx) : Option Nat :=
        (s.channel b).window.bind (fun w => if w.phase = .wait then w.settleDeadline else none)
      let perBay (deadline : BayIx → Option Nat) (c : BayIx → Nat → Instr) : List Instr :=
        (allBays.filter (fun b => reached (deadline b))).map (fun b => c b now)
      let whenever (p : Prop) [Decidable p] (c : Instr) : List Instr := if p then [c] else []
      (s.inReset = true → step s = .next { s with now := now }) ∧
      (s.inReset = false →
        step s = .next { s with
          now := now
          pli := { s.pli with claimHold := s.pli.claimHold.filter (fun d => decide (now < d)) }
          pending :=
            perBay (fun b => (s.channel b).silence) .silenceDeadline
            ++ perBay settle .settleDeadline
            ++ perBay (fun b => (s.feed b).bind (·.holdDeadline)) .holdDeadline
            ++ perBay (fun b => (s.bay b).closeWatch) .closeWatchExpiry
            ++ (allNodes.filter (fun n => reached ((s.entry n).map (·.deadline)))).map (fun n => .waitDeadline n now)
            ++ whenever (s.pli.line = .selecting ∧ s.pli.conn ≠ none ∧ reached s.pli.selectDeadline = true)
                (.reselectionTimeout now)
            ++ whenever (∃ c ∈ s.pli.conn, s.pli.line = .connected ∧ c.kind = .master ∧ c.turn = .partner ∧
                reached c.deadline = true) (.turnTimeout now)
            ++ whenever (reached s.store.op.endsBy = true) .storeWriteEnd
            ++ whenever (s.pli.line = .free ∧ s.pli.delivery ≠ []) (.arbitration [])
            ++ whenever (s.pli.line = .selecting ∧ s.pli.winner = some 0 ∧ s.pli.conn = none ∧ s.pli.acking = none)
                .reselection })

/-- O3. Every command answers a next state in every state, leaves the queue as it is, and the clock never goes back
(logs 1, 2); while the reset input is asserted nothing but the inputs themselves and a power-on has an effect, which the
model reads from R146 (log 17). -/
def Obligations.NoCommandStops : Prop :=
  ∀ (s : State) (c : Instr),
    (∃ t, exec c s = .next t ∧ t.pending = s.pending ∧ s.now ≤ t.now) ∧
      (s.inReset = true → isInput c = false → exec c s = .next s)

/-- O4. What power-on leaves in every block but the bays, which come back from their store: the power-on value its
chapter gives, and POWER_ON counted once. The clock, the input levels and the store's content, and so the bays, are the
model's choice (log 2, log 4, log 5) and not part of this statement. -/
def Obligations.ResetValues : Prop :=
  State.reset.units = [] ∧ State.reset.waits = [] ∧ (∀ b : BayIx, State.reset.feed b = none) ∧
  (∀ b : BayIx, State.reset.valve b = false) ∧ (∀ b : BayIx, State.reset.channel b = Channel.initial) ∧
  (∀ n : Node, State.reset.node n = { }) ∧ State.reset.pli = { } ∧ State.reset.params = { } ∧
  (∀ l : FoamLine, State.reset.line l = { current := none, previous := none, lastNumber := 0 }) ∧
  State.reset.batches.expect = defaultExpect ∧ State.reset.interlock.flag = false ∧ State.reset.permitOn = false ∧
  (∀ k : Fin 21, (State.reset.alarms.recs[k]).count = if k = alarmIx .powerOn then 1 else 0)

/-- O5. The state right after reset is sound in every respect that the invariants below name. -/
def Obligations.ResetIsSound : Prop :=
  UnitsOk State.reset ∧ SettingsOk State.reset ∧ WeighOk State.reset ∧ LineOk State.reset ∧ SlotsOk State.reset ∧
  FeedsOk State.reset ∧ PhaseOk State.reset ∧ BatchesOk State.reset

/-- O6. A request whose kind the sender's role may not use is answered NOT_PERMITTED with no body and changes nothing
else, whatever its operands (R167). -/
def Obligations.NotPermittedChangesNothing : Prop :=
  ∀ (s : State) (c : Instr),
    s.inReset = false →
      ∀ p ∈ frameOf c, permitted p.2.kind (roleOf p.1) = false →
        exec c s = .next (s.replied p.1 p.2.tag p.2.kind .notPermitted .none)

/-! ## Units -/

/-- O7. ANNOUNCE: the checks in their order, and the record it creates (R4, R5, R6). -/
def Obligations.AnnounceCreatesUnit : Prop :=
  ∀ (s : State) (n : Node) (tag unit category refr charge foam : Nat),
    s.inReset = false → roleOf n = .supervisory →
      (¬(1 ≤ unit ∧ unit ≤ 99999999 ∧ 1 ≤ category ∧ category ≤ 5 ∧ refr ≤ 4 ∧ charge ≤ 5000 ∧ foam ≤ 4) →
        exec (.announce n tag unit category refr charge foam) s
          = .next (s.replied n tag .announce .badArgument .none)) ∧
      (1 ≤ unit → unit ≤ 99999999 → refr ≤ 4 → charge ≤ 5000 → foam ≤ 4 → ∀ cat ∈ categoryOfCode category,
        ((∃ u ∈ s.units, u.tag = unit) →
          exec (.announce n tag unit category refr charge foam) s
            = .next (s.replied n tag .announce .duplicate .none)) ∧
        ((∀ u ∈ s.units, u.tag ≠ unit) → 96 ≤ s.units.length →
          exec (.announce n tag unit category refr charge foam) s
            = .next ((s.alarm .tableFull (some unit)).replied n tag .announce .tableFull .none)) ∧
        ((∀ u ∈ s.units, u.tag ≠ unit) → s.units.length < 96 →
          exec (.announce n tag unit category refr charge foam) s
            = .next ((s.setUnits (s.units ++ [
                { tag := unit, state := .announced, category := cat, declRefr := classOfCode refr,
                  declCharge := if charge = 0 then none else some charge, declFoam := classOfCode foam,
                  identRefr := none, station := none, recovered := 0, feedCount := 0, estimated := false,
                  abortCount := 0, outcome := none, ratio := none, marks := { }, identFoam := none, batch := none,
                  foamWeight := none, foamShare := none }])).replied n tag .announce .ok .none)))

/-- O8. DEGAS_BEGIN: the checks in their order, the binding to the station, and the mismatch mark and alarm (R7, R8,
R9). -/
def Obligations.DegasBeginBindsUnit : Prop :=
  ∀ (s : State) (n : Node) (tag unit cls : Nat),
    s.inReset = false → roleOf n = .station →
      (¬(1 ≤ unit ∧ unit ≤ 99999999 ∧ 1 ≤ cls ∧ cls ≤ 4) →
        exec (.degasBegin n tag unit cls) s = .next (s.replied n tag .degasBegin .badArgument .none)) ∧
      (1 ≤ unit → unit ≤ 99999999 → ∀ g ∈ classOfCode cls,
        (s.unit? unit = none →
          exec (.degasBegin n tag unit cls) s = .next (s.replied n tag .degasBegin .noUnit .none)) ∧
        ∀ u ∈ s.unit? unit,
          (u.state ≠ .announced ∨ s.boundUnit n ≠ none →
            exec (.degasBegin n tag unit cls) s = .next (s.replied n tag .degasBegin .wrongState .none)) ∧
          (u.state = .announced → s.boundUnit n = none → (u.declRefr = none ∨ u.declRefr = some g) →
            exec (.degasBegin n tag unit cls) s
              = .next ((s.modUnit unit (fun v => { v with
                  state := .degassing, station := some n, identRefr := some g })).replied n tag .degasBegin .ok .none)) ∧
          (u.state = .announced → s.boundUnit n = none → u.declRefr ≠ none → u.declRefr ≠ some g →
            exec (.degasBegin n tag unit cls) s
              = .next (((s.modUnit unit (fun v => { v with
                  state := .degassing, station := some n, identRefr := some g,
                  marks := { v.marks with classMismatch := true } })).alarm .classMismatch (some unit)).replied
                    n tag .degasBegin .ok .none)))

/-- O9. DEGAS_END: the checks in their order, and the outcomes COMPLETE (with the recovery check), NO_CHARGE and ABORTED
with the degas result body (R11 to R16, R105). -/
def Obligations.DegasEndEndsUnit : Prop :=
  ∀ (s : State) (n : Node) (tag outcome : Nat),
    s.inReset = false → roleOf n = .station →
      (outcome = 0 ∨ 3 < outcome →
        exec (.degasEnd n tag outcome) s = .next (s.replied n tag .degasEnd .badArgument .none)) ∧
      (1 ≤ outcome → outcome ≤ 3 →
        (s.boundUnit n = none →
          exec (.degasEnd n tag outcome) s = .next (s.replied n tag .degasEnd .noUnit .none)) ∧
        ∀ u ∈ s.boundUnit n,
          (s.ownedBay n ≠ none ∨ s.entry n ≠ none →
            exec (.degasEnd n tag outcome) s = .next (s.replied n tag .degasEnd .feedActive .none)) ∧
          (s.ownedBay n = none → s.entry n = none → outcome = 3 →
            exec (.degasEnd n tag outcome) s
              = .next ((s.modUnit u.tag (fun v => { v with
                  state := .announced, station := none, abortCount := min 15 (v.abortCount + 1) })).replied
                    n tag .degasEnd .ok (.degas .aborted u.recovered u.feedCount u.ratio u.marks))) ∧
          (s.ownedBay n = none → s.entry n = none → outcome = 2 → u.recovered ≤ s.params.emptyThreshold →
            exec (.degasEnd n tag outcome) s
              = .next ((s.modUnit u.tag (fun v => { v with
                  state := .degassed, outcome := some .noCharge, station := none,
                  marks := { v.marks with empty := true } })).replied n tag .degasEnd .ok
                    (.degas .noCharge u.recovered u.feedCount u.ratio { u.marks with empty := true }))) ∧
          (s.ownedBay n = none → s.entry n = none →
            outcome = 1 ∨ (outcome = 2 ∧ s.params.emptyThreshold < u.recovered) →
              (u.declCharge = none → (∀ v ∈ s.units, v.tag = u.tag → v = u) →
                exec (.degasEnd n tag outcome) s
                  = .next ((s.modUnit u.tag (fun v => { v with
                      state := .degassed, outcome := some .complete, station := none, ratio := none })).replied
                        n tag .degasEnd .ok (.degas .complete u.recovered u.feedCount none u.marks))) ∧
              (∀ c ∈ u.declCharge, (∀ v ∈ s.units, v.tag = u.tag → v = u) →
                (s.params.minRecovery ≤ min 2000 ((2 * (u.recovered * 1000) + c) / (2 * c)) →
                  exec (.degasEnd n tag outcome) s
                    = .next ((s.modUnit u.tag (fun v => { v with
                        state := .degassed, outcome := some .complete, station := none,
                        ratio := some (min 2000 ((2 * (u.recovered * 1000) + c) / (2 * c))) })).replied n tag .degasEnd
                          .ok (.degas .complete u.recovered u.feedCount
                            (some (min 2000 ((2 * (u.recovered * 1000) + c) / (2 * c)))) u.marks))) ∧
                (min 2000 ((2 * (u.recovered * 1000) + c) / (2 * c)) < s.params.minRecovery →
                  exec (.degasEnd n tag outcome) s
                    = .next (((s.modUnit u.tag (fun v => { v with
                        state := .degassed, outcome := some .complete, station := none,
                        ratio := some (min 2000 ((2 * (u.recovered * 1000) + c) / (2 * c))),
                        marks := { v.marks with short := true } })).alarm .recoveryShort (some u.tag)).replied n tag
                          .degasEnd .ok (.degas .complete u.recovered u.feedCount
                            (some (min 2000 ((2 * (u.recovered * 1000) + c) / (2 * c))))
                            { u.marks with short := true }))))))

/-- O10. UNIT_QUERY answers the record as it stands and changes nothing (R19). -/
def Obligations.UnitQueryAnswers : Prop :=
  ∀ (s : State) (n : Node) (tag unit : Nat),
    s.inReset = false →
      (unit = 0 ∨ 99999999 < unit →
        exec (.unitQuery n tag unit) s = .next (s.replied n tag .unitQuery .badArgument .none)) ∧
      (1 ≤ unit → unit ≤ 99999999 →
        ((∀ u ∈ s.units, u.tag ≠ unit) →
          exec (.unitQuery n tag unit) s = .next (s.replied n tag .unitQuery .noUnit .none)) ∧
        ∀ u ∈ s.unit? unit, exec (.unitQuery n tag unit) s = .next (s.replied n tag .unitQuery .ok (.unit u)))

/-- O11. UNIT_RELEASE removes an ANNOUNCED or CLOSED record and answers it as it stood; it refuses the others (R20). -/
def Obligations.UnitReleaseRemoves : Prop :=
  ∀ (s : State) (n : Node) (tag unit : Nat),
    s.inReset = false →
      (roleOf n ≠ .supervisory →
        exec (.unitRelease n tag unit) s = .next (s.replied n tag .unitRelease .notPermitted .none)) ∧
      (roleOf n = .supervisory → unit = 0 ∨ 99999999 < unit →
        exec (.unitRelease n tag unit) s = .next (s.replied n tag .unitRelease .badArgument .none)) ∧
      (roleOf n = .supervisory → 1 ≤ unit → unit ≤ 99999999 →
        ((∀ u ∈ s.units, u.tag ≠ unit) →
          exec (.unitRelease n tag unit) s = .next (s.replied n tag .unitRelease .noUnit .none)) ∧
        ∀ u ∈ s.unit? unit,
          (u.state = .degassing ∨ u.state = .degassed ∨ u.state = .inBatch →
            exec (.unitRelease n tag unit) s = .next (s.replied n tag .unitRelease .wrongState .none)) ∧
          (u.state = .announced ∨ u.state = .closed →
            exec (.unitRelease n tag unit) s
              = .next ((s.setUnits (s.units.filter (fun v => decide (v.tag ≠ unit)))).replied n tag .unitRelease .ok
                  (.unit u))))

/-! ## Queries -/

/-- O12. VESSEL_QUERY, BATCH_QUERY and FEED_OUTCOME answer the record or the node's feed-outcome field as it stands, and
change nothing (R42, R79, R132). -/
def Obligations.RecordQueriesAnswer : Prop :=
  ∀ (s : State) (n : Node) (tag bay line slot : Nat),
    s.inReset = false →
      (8 ≤ bay → exec (.vesselQuery n tag bay) s = .next (s.replied n tag .vesselQuery .badArgument .none)) ∧
      (∀ b ∈ bayOfArg bay,
        exec (.vesselQuery n tag bay) s = .next (s.replied n tag .vesselQuery .ok
          (.vessel b (s.bay b) ((s.feed b).map (fun f => (f.owner, f.endCause))) (s.switch b) (s.channel b).state
            (s.channel b).validRun (s.channel b).under))) ∧
      (line = 0 ∨ 2 < line ∨ 1 < slot →
        exec (.batchQuery n tag line slot) s = .next (s.replied n tag .batchQuery .badArgument .none)) ∧
      (∀ l ∈ lineOfArg line,
        exec (.batchQuery n tag line 0) s
          = .next (s.replied n tag .batchQuery .ok (.batch l 0 (s.line l).lastNumber (s.line l).current)) ∧
        exec (.batchQuery n tag line 1) s
          = .next (s.replied n tag .batchQuery .ok (.batch l 1 (s.line l).lastNumber (s.line l).previous))) ∧
      (roleOf n ≠ .supervisory →
        ((s.node n).outcome = none →
          exec (.feedOutcome n tag) s = .next (s.replied n tag .feedOutcome .noFeed .none)) ∧
        ∀ o ∈ (s.node n).outcome,
          exec (.feedOutcome n tag) s = .next (s.replied n tag .feedOutcome .ok (.outcome o)))

/-! ## Feeds and the Wait List -/

/-- O13. The vessel choice: it finds a bay exactly where a candidate exists, and the bay found comes first by exact
class, then least headroom, then lowest number (R87). -/
def Obligations.VesselChoiceIsFirst : Prop :=
  ∀ (s : State) (g : GasClass),
    let candidate (b : BayIx) : Prop :=
      (s.bay b).state = .ready ∧ (s.channel b).state = .ok ∧
        (∃ v ∈ (s.bay b).vessel, (v.cls = g ∨ v.cls = .mx) ∧
          s.params.grantReserve ≤ v.capacity * fillDensity v.cls - (s.bay b).net) ∧
        (g = .hc ∨ g = .mx → s.permitOn = true ∧ s.interlock.estop = false)
    let sameClass (b : BayIx) : Prop := (s.bay b).vessel.map (·.cls) = some g
    let room (b : BayIx) : Nat := ((s.bay b).headroom).getD 0
    (s.chooseVessel g = none ↔ ∀ b : BayIx, ¬ candidate b) ∧
      ∀ b ∈ s.chooseVessel g, candidate b ∧ ∀ a : BayIx, candidate a → a ≠ b →
        (sameClass b ∧ ¬ sameClass a) ∨ ((sameClass b ↔ sameClass a) ∧ (room b < room a ∨ (room b = room a ∧ b < a)))

/-- O14. A FEED_OPEN that passes its checks and finds a candidate is granted at once: the feed, the bay FEEDING, the
valve open, the outcome field replaced, and the grant body (R66, R67). -/
def Obligations.FeedOpenGrants : Prop :=
  ∀ (s : State) (n : Node) (tag : Nat),
    s.inReset = false → roleOf n = .station →
      ∀ u ∈ s.boundUnit n, ∀ g ∈ u.identRefr,
        s.ownedBay n = none → (s.node n).slot = .empty → s.interlock.estop = false →
          (g = .hc ∨ g = .mx → s.permitOn = true) →
            ∀ b ∈ s.chooseVessel g, ∀ v ∈ (s.bay b).vessel,
              exec (.feedOpen n tag) s
                = .next ((s.granted b n (.unit u.tag) g).replied n tag .feedOpen .ok
                    (.grant b v.id (v.capacity * fillDensity v.cls - (s.bay b).net)))

/-- O15. A FEED_OPEN that is not granted at once: refused in the order of R66, refused NO_VESSEL, or waiting (R66, R88,
R89). -/
def Obligations.FeedOpenRefusedOrWaits : Prop :=
  ∀ (s : State) (n : Node) (tag : Nat),
    s.inReset = false → roleOf n = .station →
      (s.boundUnit n = none →
        exec (.feedOpen n tag) s = .next (s.replied n tag .feedOpen .noUnit .none)) ∧
      ∀ u ∈ s.boundUnit n, ∀ g ∈ u.identRefr,
        (s.ownedBay n ≠ none →
          exec (.feedOpen n tag) s = .next (s.replied n tag .feedOpen .feedActive .none)) ∧
        (s.ownedBay n = none → (s.node n).slot ≠ .empty →
          exec (.feedOpen n tag) s = .next (s.replied n tag .feedOpen .slotBusy .none)) ∧
        (s.ownedBay n = none → (s.node n).slot = .empty → s.interlock.estop = true →
          exec (.feedOpen n tag) s = .next (s.replied n tag .feedOpen .estop .none)) ∧
        (s.ownedBay n = none → (s.node n).slot = .empty → s.interlock.estop = false →
          (g = .hc ∨ g = .mx) → s.permitOn = false →
            exec (.feedOpen n tag) s = .next (s.replied n tag .feedOpen .permitOff .none)) ∧
        (s.ownedBay n = none → (s.node n).slot = .empty → s.interlock.estop = false →
          (g = .hc ∨ g = .mx → s.permitOn = true) → s.chooseVessel g = none →
            ((∀ b : BayIx, ∀ v ∈ (s.bay b).vessel, v.cls = g ∨ v.cls = .mx →
                (s.bay b).state ≠ .feeding ∧ (s.bay b).state ≠ .closing ∧ (s.bay b).state ≠ .settling ∧
                  (s.bay b).state ≠ .hold) →
              exec (.feedOpen n tag) s = .next (s.replied n tag .feedOpen .noVessel .none)) ∧
            ((∃ b : BayIx, ∃ v ∈ (s.bay b).vessel, (v.cls = g ∨ v.cls = .mx) ∧
                ((s.bay b).state = .feeding ∨ (s.bay b).state = .closing ∨ (s.bay b).state = .settling ∨
                  (s.bay b).state = .hold)) →
              exec (.feedOpen n tag) s
                = .next ((s.waiting n tag .feedOpen g (.unit u.tag)).replied n tag .feedOpen .deferred .none)))

/-- O16. FEED_PROGRESS on a running feed stores the estimate, renews the hold deadline, and with the channel out works
out the book; on any other feed it answers the outcome field (R60, R69, R71). -/
def Obligations.FeedProgressRenews : Prop :=
  ∀ (s : State) (n : Node) (tag flow : Nat),
    s.inReset = false → roleOf n ≠ .supervisory →
      (s.ownedBay n = none → (s.node n).outcome = none →
        exec (.feedProgress n tag flow) s = .next (s.replied n tag .feedProgress .noFeed .none)) ∧
      (s.ownedBay n = none → ∀ o ∈ (s.node n).outcome,
        exec (.feedProgress n tag flow) s = .next (s.replied n tag .feedProgress .feedEnded (.outcome o))) ∧
      ∀ b ∈ s.ownedBay n, ∀ f ∈ s.feed b,
        (f.state = .closing → ∀ o ∈ (s.node n).outcome,
          exec (.feedProgress n tag flow) s = .next (s.replied n tag .feedProgress .feedEnded (.outcome o))) ∧
        (f.state = .feeding → ∀ v ∈ (s.bay b).vessel,
          ((s.channel b).state = .ok →
            exec (.feedProgress n tag flow) s
              = .next ((s.setFeed b (some { f with
                  estimate := 10 * flow, holdDeadline := some (s.now + 1000 * s.params.holdTime) })).replied n tag
                    .feedProgress .ok
                    (.progress (min 65535 ((v.capacity * fillDensity v.cls - ((s.channel b).lastGross - v.tare)) / 10))
                      false))) ∧
          ((s.channel b).state ≠ .ok →
            min 1000000 (f.startNet + 10 * flow) < v.capacity * fillDensity v.cls →
              exec (.feedProgress n tag flow) s
                = .next (((s.setFeed b (some { f with
                    estimate := 10 * flow, holdDeadline := some (s.now + 1000 * s.params.holdTime) })).setBay b
                      { s.bay b with book := min 1000000 (f.startNet + 10 * flow) }).replied n tag .feedProgress .ok
                      (.progress (min 65535
                        ((v.capacity * fillDensity v.cls - min 1000000 (f.startNet + 10 * flow)) / 10)) true))))

/-- O17. With the channel out, a FEED_PROGRESS whose book reaches max fill ends the feed FULL, and a FEED_CLOSE ends it
CLOSED; both are booked by estimate in the same step, whatever the slot holds. The estimate goes to the unit; or to the
segment, with the end cause, and the batch is STALLED with its ESTIMATED mark (R70, R77, R81, R102, R107, R116,
R122). -/
def Obligations.FeedEndsByEstimate : Prop :=
  ∀ (s : State) (n : Node) (tag flow : Nat),
    s.inReset = false → roleOf n ≠ .supervisory → (s.node n).slot.awaits .feedClose = false →
      ∀ b ∈ s.ownedBay n, ∀ f ∈ s.feed b, ∀ o ∈ (s.node n).outcome,
        f.state = .feeding → f.booked = false → (s.channel b).state ≠ .ok →
          let last : Feed := { f with estimate := 10 * flow }
          let told (c : EndCause) : Body := .outcome { o with
            endCause := some c, settled := true, gain := some (10 * flow), estimated := true }
          (∀ v ∈ (s.bay b).vessel, v.capacity * fillDensity v.cls ≤ min 1000000 (f.startNet + 10 * flow) →
            (∀ unit ∈ f.purpose.unit?,
              exec (.feedProgress n tag flow) s
                = .next ((s.endsEstimated b last .full unit).replied n tag .feedProgress .feedEnded (told .full))) ∧
            (∀ l ∈ f.purpose.line?, ∀ bt ∈ (s.line l).current, ∀ k : Nat, f.purpose = .batch l bt.number k →
              exec (.feedProgress n tag flow) s
                = .next (((s.endsUnweighed b last .full).setLine l { s.line l with
                    current := some (bt.segmentLost k .full (10 * flow)) }).replied n tag .feedProgress .feedEnded
                      (told .full)))) ∧
          (roleOf n = .station → ∀ unit ∈ f.purpose.unit?,
            exec (.feedClose n tag flow) s
              = .next ((s.endsEstimated b last .closed unit).replied n tag .feedClose .ok (told .closed)))

/-- O18. FEED_CLOSE with the channel OK: DEFERRED with the slot EMPTY, SLOT_BUSY otherwise; on no running feed it
answers WRONG_STATE, the outcome field or NO_FEED (R74, R77, R78). -/
def Obligations.FeedCloseDefers : Prop :=
  ∀ (s : State) (n : Node) (tag flow : Nat),
    s.inReset = false → roleOf n = .station →
      (s.ownedBay n = none → s.entry n ≠ none →
        exec (.feedClose n tag flow) s = .next (s.replied n tag .feedClose .wrongState .none)) ∧
      (s.ownedBay n = none → s.entry n = none → (s.node n).outcome = none →
        exec (.feedClose n tag flow) s = .next (s.replied n tag .feedClose .noFeed .none)) ∧
      (s.ownedBay n = none → s.entry n = none → ∀ o ∈ (s.node n).outcome,
        exec (.feedClose n tag flow) s = .next (s.replied n tag .feedClose .feedEnded (.outcome o))) ∧
      ∀ b ∈ s.ownedBay n, ∀ f ∈ s.feed b,
        (f.state = .closing → ∀ o ∈ (s.node n).outcome,
          exec (.feedClose n tag flow) s = .next (s.replied n tag .feedClose .feedEnded (.outcome o))) ∧
        (f.state = .feeding → (s.channel b).state = .ok → (s.node n).slot ≠ .empty →
          exec (.feedClose n tag flow) s = .next (s.replied n tag .feedClose .slotBusy .none)) ∧
        (f.state = .feeding → (s.channel b).state = .ok → (s.node n).slot = .empty → f.purpose.line? = none →
          exec (.feedClose n tag flow) s
            = .next (((s.endsWeighed b { f with estimate := 10 * flow } .closed).setSlot n
                (.deferred tag .feedClose)).replied n tag .feedClose .deferred .none))

/-- O19. The passing of a hold deadline ends a FEEDING feed ABANDONED and counts FEED_ABANDONED: weighed later with the
channel OK, by estimate with it out, and stalling a batch either way, its segment booked by the estimate with the
channel out; a deadline that has moved ahead, or none, is no end (R72, R74, R81, R107, R116, R122). The clock is the
model's (logs 2, 20). -/
def Obligations.HoldDeadlineAbandons : Prop :=
  ∀ (s : State) (b : BayIx) (arrival : Nat),
    s.inReset = false →
      (s.feed b = none → exec (.holdDeadline b arrival) s = .next (s.advance arrival)) ∧
      ∀ f ∈ s.feed b,
        (f.holdDeadline = none → exec (.holdDeadline b arrival) s = .next (s.advance arrival)) ∧
        ∀ d ∈ f.holdDeadline,
          (max s.now arrival < d → exec (.holdDeadline b arrival) s = .next (s.advance arrival)) ∧
          (d ≤ max s.now arrival → f.state = .feeding → f.booked = false →
            (s.node f.owner).slot.awaits .feedClose = false →
              ((s.channel b).state = .ok → f.purpose.line? = none →
                exec (.holdDeadline b arrival) s
                  = .next (((s.advance arrival).endsWeighed b f .abandoned).alarm .feedAbandoned
                      (some (nodeAddr f.owner)))) ∧
              ((s.channel b).state ≠ .ok → ∀ unit ∈ f.purpose.unit?,
                exec (.holdDeadline b arrival) s
                  = .next (((s.advance arrival).endsEstimated b f .abandoned unit).alarm .feedAbandoned
                      (some (nodeAddr f.owner)))) ∧
              (∀ l ∈ f.purpose.line?, ∀ bt ∈ (s.line l).current, ∀ k : Nat, f.purpose = .batch l bt.number k →
                ((s.channel b).state = .ok →
                  exec (.holdDeadline b arrival) s
                    = .next ((((s.advance arrival).endsWeighed b f .abandoned).segmentEnds l bt.number k
                        .abandoned).alarm .feedAbandoned (some (nodeAddr f.owner)))) ∧
                ((s.channel b).state ≠ .ok →
                  exec (.holdDeadline b arrival) s
                    = .next ((((s.advance arrival).endsUnweighed b f .abandoned).setLine l { s.line l with
                        current := some (bt.segmentLost k .abandoned f.estimate) }).alarm .feedAbandoned
                          (some (nodeAddr f.owner))))))

/-- O20. Entries that leave without a grant: FEED_CANCEL withdraws the station's entry and leaves WITHDRAWN in its slot,
or answers NO_FEED without one; the passing of a wait deadline removes the entry with WAIT_EXPIRED, counts the alarm,
and stalls a batch, and a deadline ahead or no entry changes nothing but the clock (R92, R94, R121). The clock is the
model's (logs 2, 20). -/
def Obligations.EntriesLeave : Prop :=
  ∀ (s : State) (n : Node) (tag arrival : Nat),
    s.inReset = false →
      (roleOf n = .station →
        (s.entry n = none → exec (.feedCancel n tag) s = .next (s.replied n tag .feedCancel .noFeed .none)) ∧
        ∀ e ∈ s.entry n, e.purpose.line? = none →
          exec (.feedCancel n tag) s = .next ((s.removed e .withdrawn).replied n tag .feedCancel .ok .none)) ∧
      (s.entry n = none → exec (.waitDeadline n arrival) s = .next (s.advance arrival)) ∧
      ∀ e ∈ s.entry n,
        (max s.now arrival < e.deadline → exec (.waitDeadline n arrival) s = .next (s.advance arrival)) ∧
        (e.deadline ≤ max s.now arrival → e.purpose.line? = none →
          exec (.waitDeadline n arrival) s
            = .next (((s.advance arrival).removed e .waitExpired).alarm .waitExpired (some (nodeAddr n)))) ∧
        (e.deadline ≤ max s.now arrival → ∀ l ∈ e.purpose.line?,
          exec (.waitDeadline n arrival) s
            = .next ((((s.advance arrival).removed e .waitExpired).modCurrent l (fun bt => { bt with
                state := .stalled })).alarm .waitExpired (some (nodeAddr n))))

/-! ## Foam batches -/

/-- O21. FOAM_OPEN: the checks in their order; a batch that passes is created with the next number in every case, OPEN
with its first segment on a grant, WAITING_FEED where the request waits, STALLED where it is refused (R114, R119,
R120). -/
def Obligations.FoamOpenCreatesBatch : Prop :=
  ∀ (s : State) (l : FoamLine) (tag cls : Nat),
    s.inReset = false →
      (cls = 0 ∨ 4 < cls → exec (.foamOpen (nodeOfLine l) tag cls) s
        = .next (s.replied (nodeOfLine l) tag .foamOpen .badArgument .none)) ∧
      ∀ g ∈ classOfCode cls,
        ((s.line l).current ≠ none → exec (.foamOpen (nodeOfLine l) tag cls) s
          = .next (s.replied (nodeOfLine l) tag .foamOpen .wrongState .none)) ∧
        ((s.line l).current = none → s.ownedBay (nodeOfLine l) ≠ none →
          exec (.foamOpen (nodeOfLine l) tag cls) s
            = .next (s.replied (nodeOfLine l) tag .foamOpen .feedActive .none)) ∧
        ((s.line l).current = none → s.ownedBay (nodeOfLine l) = none → (s.node (nodeOfLine l)).slot ≠ .empty →
          exec (.foamOpen (nodeOfLine l) tag cls) s
            = .next (s.replied (nodeOfLine l) tag .foamOpen .slotBusy .none)) ∧
        ((s.line l).current = none → s.ownedBay (nodeOfLine l) = none → (s.node (nodeOfLine l)).slot = .empty →
          let number := if 65535 ≤ (s.line l).lastNumber then 1 else (s.line l).lastNumber + 1
          let created (st : BatchState) (segs : List Segment) : State := s.setLine l { s.line l with
            current := some { line := l, number := number, cls := g, state := st, cabinets := [], segments := segs,
                              total := none, unassigned := none, yield := none, marks := { } }
            lastNumber := number }
          (s.interlock.estop = true → exec (.foamOpen (nodeOfLine l) tag cls) s
            = .next ((created .stalled []).replied (nodeOfLine l) tag .foamOpen .estop .none)) ∧
          (s.interlock.estop = false → (g = .hc ∨ g = .mx) → s.permitOn = false →
            exec (.foamOpen (nodeOfLine l) tag cls) s
              = .next ((created .stalled []).replied (nodeOfLine l) tag .foamOpen .permitOff .none)) ∧
          (s.interlock.estop = false → (g = .hc ∨ g = .mx → s.permitOn = true) →
            (s.chooseVessel g = none → s.mayWait g = false → exec (.foamOpen (nodeOfLine l) tag cls) s
              = .next ((created .stalled []).replied (nodeOfLine l) tag .foamOpen .noVessel .none)) ∧
            (s.chooseVessel g = none → s.mayWait g = true → exec (.foamOpen (nodeOfLine l) tag cls) s
              = .next (((created .waitingFeed []).waiting (nodeOfLine l) tag .foamOpen g (.batch l number)).replied
                  (nodeOfLine l) tag .foamOpen .deferred .none)) ∧
            (∀ b ∈ s.chooseVessel g, ∀ v ∈ (s.bay b).vessel, exec (.foamOpen (nodeOfLine l) tag cls) s
              = .next (((created .opened [
                  { bay := b, endCause := none, settled := false, gain := none, estimated := false }]).granted b (nodeOfLine l) (.batch l number 1) g).replied (nodeOfLine l) tag
                    .foamOpen .ok (.grant b v.id (v.capacity * fillDensity v.cls - (s.bay b).net))))))

/-- O22. FOAM_RESUME: the checks in their order, and a further feed for the STALLED batch: the next segment on a grant,
WAITING_FEED where the request waits, unchanged where it is refused (R116, R123). -/
def Obligations.FoamResumeAsksAgain : Prop :=
  ∀ (s : State) (l : FoamLine) (tag : Nat),
    s.inReset = false →
      ((s.line l).current = none → exec (.foamResume (nodeOfLine l) tag) s
        = .next (s.replied (nodeOfLine l) tag .foamResume .wrongState .none)) ∧
      ∀ bt ∈ (s.line l).current,
        (bt.state ≠ .stalled → exec (.foamResume (nodeOfLine l) tag) s
          = .next (s.replied (nodeOfLine l) tag .foamResume .wrongState .none)) ∧
        (bt.state = .stalled → 4 ≤ bt.segments.length → exec (.foamResume (nodeOfLine l) tag) s
          = .next (s.replied (nodeOfLine l) tag .foamResume .segmentLimit .none)) ∧
        (bt.state = .stalled → bt.segments.length < 4 →
          (s.ownedBay (nodeOfLine l) ≠ none → exec (.foamResume (nodeOfLine l) tag) s
            = .next (s.replied (nodeOfLine l) tag .foamResume .feedActive .none)) ∧
          (s.ownedBay (nodeOfLine l) = none → (s.node (nodeOfLine l)).slot ≠ .empty →
            exec (.foamResume (nodeOfLine l) tag) s
              = .next (s.replied (nodeOfLine l) tag .foamResume .slotBusy .none)) ∧
          (s.ownedBay (nodeOfLine l) = none → (s.node (nodeOfLine l)).slot = .empty →
            (s.interlock.estop = true → exec (.foamResume (nodeOfLine l) tag) s
              = .next (s.replied (nodeOfLine l) tag .foamResume .estop .none)) ∧
            (s.interlock.estop = false → (bt.cls = .hc ∨ bt.cls = .mx) → s.permitOn = false →
              exec (.foamResume (nodeOfLine l) tag) s
                = .next (s.replied (nodeOfLine l) tag .foamResume .permitOff .none)) ∧
            (s.interlock.estop = false → (bt.cls = .hc ∨ bt.cls = .mx → s.permitOn = true) →
              (s.chooseVessel bt.cls = none → s.mayWait bt.cls = false → exec (.foamResume (nodeOfLine l) tag) s
                = .next (s.replied (nodeOfLine l) tag .foamResume .noVessel .none)) ∧
              (s.chooseVessel bt.cls = none → s.mayWait bt.cls = true → exec (.foamResume (nodeOfLine l) tag) s
                = .next (((s.setLine l { s.line l with current := some { bt with state := .waitingFeed } }).waiting
                    (nodeOfLine l) tag .foamResume bt.cls (.batch l bt.number)).replied (nodeOfLine l) tag .foamResume
                      .deferred .none)) ∧
              (∀ b ∈ s.chooseVessel bt.cls, ∀ v ∈ (s.bay b).vessel, exec (.foamResume (nodeOfLine l) tag) s
                = .next (((s.setLine l { s.line l with current := some { bt with
                    state := .opened,
                    segments := bt.segments ++ [
                      { bay := b, endCause := none, settled := false, gain := none, estimated := false }] } }).granted b (nodeOfLine l)
                      (.batch l bt.number (bt.segments.length + 1)) bt.cls).replied (nodeOfLine l) tag .foamResume .ok
                        (.grant b v.id (v.capacity * fillDensity v.cls - (s.bay b).net)))))))

/-- O23. CABINET_ADMIT: the checks in their order; an admission appends the cabinet with the expectation figure of the
moment and writes it into the unit record, marking a foam mismatch (R17, R124, R125). -/
def Obligations.CabinetAdmitBooks : Prop :=
  ∀ (s : State) (l : FoamLine) (tag unit cls : Nat),
    s.inReset = false →
      (¬(1 ≤ unit ∧ unit ≤ 99999999 ∧ 1 ≤ cls ∧ cls ≤ 4) → exec (.cabinetAdmit (nodeOfLine l) tag unit cls) s
        = .next (s.replied (nodeOfLine l) tag .cabinetAdmit .badArgument .none)) ∧
      (1 ≤ unit → unit ≤ 99999999 → ∀ g ∈ classOfCode cls,
        ((∀ bt ∈ (s.line l).current, bt.state ≠ .opened) → exec (.cabinetAdmit (nodeOfLine l) tag unit cls) s
          = .next (s.replied (nodeOfLine l) tag .cabinetAdmit .wrongState .none)) ∧
        ∀ bt ∈ (s.line l).current, bt.state = .opened →
          (s.unit? unit = none → exec (.cabinetAdmit (nodeOfLine l) tag unit cls) s
            = .next (s.replied (nodeOfLine l) tag .cabinetAdmit .noUnit .none)) ∧
          ∀ u ∈ s.unit? unit,
            (u.state ≠ .degassed → exec (.cabinetAdmit (nodeOfLine l) tag unit cls) s
              = .next (s.replied (nodeOfLine l) tag .cabinetAdmit .wrongState .none)) ∧
            (u.state = .degassed → bt.cls ≠ .mx → bt.cls ≠ g → exec (.cabinetAdmit (nodeOfLine l) tag unit cls) s
              = .next (s.replied (nodeOfLine l) tag .cabinetAdmit .classMismatch .none)) ∧
            (u.state = .degassed → (bt.cls = .mx ∨ bt.cls = g) → 24 ≤ bt.cabinets.length →
              exec (.cabinetAdmit (nodeOfLine l) tag unit cls) s
                = .next (s.replied (nodeOfLine l) tag .cabinetAdmit .batchFull .none)) ∧
            (u.state = .degassed → (bt.cls = .mx ∨ bt.cls = g) → bt.cabinets.length < 24 →
              let w := s.batches.expect[expectIx u.category g]
              let admitted (mark : Bool) : State :=
                (s.setLine l { s.line l with current := some { bt with
                  cabinets := bt.cabinets ++ [{ tag := unit, weight := w, share := none }] } }).modUnit unit (fun v =>
                    { v with
                      state := .inBatch, identFoam := some g, batch := some (l, bt.number), foamWeight := some w,
                      marks := { v.marks with foamMismatch := v.marks.foamMismatch || mark } })
              ((u.declFoam = none ∨ u.declFoam = some g) → exec (.cabinetAdmit (nodeOfLine l) tag unit cls) s
                = .next ((admitted false).replied (nodeOfLine l) tag .cabinetAdmit .ok
                    (.admitted w (bt.cabinets.length + 1)))) ∧
              (u.declFoam ≠ none → u.declFoam ≠ some g → exec (.cabinetAdmit (nodeOfLine l) tag unit cls) s
                = .next (((admitted true).alarm .foamMismatch (some unit)).replied (nodeOfLine l) tag .cabinetAdmit .ok
                    (.admitted w (bt.cabinets.length + 1))))))

/-- O24. FOAM_CLOSE that completes its batch in the same step and answers OK with the completion body, whatever the slot
holds: on a STALLED batch whose segments are all settled; on a WAITING_FEED one, after the line's entry is withdrawn; on
an OPEN one whose feed's channel is out, after the feed has ended CLOSED by its estimate. The completion writes the
total gain, the shares and CLOSED units, the unassigned mass, the yield, its marks and alarm, and moves the record to
the previous slot (R81, R95, R106, R108, R110, R111, R112, R113, R127, R128, R129, R130). -/
def Obligations.FoamCloseCompletes : Prop :=
  ∀ (s : State) (l : FoamLine) (tag : Nat),
    s.inReset = false → ∀ bt ∈ (s.line l).current,
      (bt.state = .stalled → (s.node (nodeOfLine l)).slot.awaits .foamClose = false →
        (∀ g ∈ bt.segments, g.settled = true) →
          exec (.foamClose (nodeOfLine l) tag) s
            = .next ((s.batchDone l bt).replied (nodeOfLine l) tag .foamClose .ok bt.doneBody)) ∧
      (bt.state = .waitingFeed → ∀ e ∈ s.entry (nodeOfLine l), e.purpose.line? = some l →
        (∀ g ∈ bt.segments, g.settled = true) →
          exec (.foamClose (nodeOfLine l) tag) s
            = .next (((s.removed e .withdrawn).batchDone l bt).replied (nodeOfLine l) tag .foamClose .ok bt.doneBody)) ∧
      (bt.state = .opened → (s.node (nodeOfLine l)).slot.awaits .foamClose = false →
        (s.node (nodeOfLine l)).slot.awaits .feedClose = false →
          ∀ b ∈ s.ownedBay (nodeOfLine l), ∀ f ∈ s.feed b, f.state = .feeding → f.booked = false →
            (s.channel b).state ≠ .ok → ∀ k : Nat, f.purpose = .batch l bt.number k →
              let ended : Batch := { bt with
                segments := modifyAt (fun x => { x with endCause := some .closed }) bt.segments (k - 1) }
              let last := ended.segmentBooked k f.estimate true false
              (∀ g ∈ last.segments, g.settled = true) →
                exec (.foamClose (nodeOfLine l) tag) s
                  = .next (((s.endsUnweighed b f .closed).batchDone l last).replied (nodeOfLine l) tag .foamClose .ok
                      last.doneBody))

/-- O25. FOAM_CLOSE that does not complete at once: WRONG_STATE on no batch or a CLOSING one; on an unsettled segment,
or a running feed with its channel OK, the batch goes to CLOSING and the reply is DEFERRED, or SLOT_BUSY with the slot
not EMPTY (R126, R127, R128). -/
def Obligations.FoamCloseDefers : Prop :=
  ∀ (s : State) (l : FoamLine) (tag : Nat),
    s.inReset = false →
      ((s.line l).current = none → exec (.foamClose (nodeOfLine l) tag) s
        = .next (s.replied (nodeOfLine l) tag .foamClose .wrongState .none)) ∧
      ∀ bt ∈ (s.line l).current,
        (bt.state = .closing → exec (.foamClose (nodeOfLine l) tag) s
          = .next (s.replied (nodeOfLine l) tag .foamClose .wrongState .none)) ∧
        (bt.state = .stalled → (∃ g ∈ bt.segments, g.settled = false) →
          ((s.node (nodeOfLine l)).slot ≠ .empty → exec (.foamClose (nodeOfLine l) tag) s
            = .next (s.replied (nodeOfLine l) tag .foamClose .slotBusy .none)) ∧
          ((s.node (nodeOfLine l)).slot = .empty → exec (.foamClose (nodeOfLine l) tag) s
            = .next (((s.setLine l { s.line l with current := some { bt with state := .closing } }).setSlot
                (nodeOfLine l) (.deferred tag .foamClose)).replied (nodeOfLine l) tag .foamClose .deferred .none))) ∧
        (bt.state = .opened → ∀ b ∈ s.ownedBay (nodeOfLine l), ∀ f ∈ s.feed b, f.state = .feeding →
          (s.channel b).state = .ok → ∀ k : Nat, f.purpose = .batch l bt.number k →
            ((s.node (nodeOfLine l)).slot ≠ .empty → exec (.foamClose (nodeOfLine l) tag) s
              = .next (s.replied (nodeOfLine l) tag .foamClose .slotBusy .none)) ∧
            ((s.node (nodeOfLine l)).slot = .empty → exec (.foamClose (nodeOfLine l) tag) s
              = .next (((((s.setLine l { s.line l with current := some { bt with state := .closing } }).endsWeighed b f
                  .closed).segmentEnds l bt.number k .closed).setSlot (nodeOfLine l)
                    (.deferred tag .foamClose)).replied (nodeOfLine l) tag .foamClose .deferred .none)))

/-- O26. The split: the shares of cabinets that each weigh something add up to the total exactly, each is its truncated
proportion or 1 g more, and never more where the proportion is whole; so the shares and the unassigned mass of every
completed batch add up to its total gain (R108, R109, R110). -/
def Obligations.SplitAddsUp : Prop :=
  (∀ (total : Nat) (weights : List Nat), weights ≠ [] → (∀ w ∈ weights, 1 ≤ w) →
    (splitShares total weights).length = weights.length ∧ (splitShares total weights).sum = total ∧
      ∀ i < weights.length,
        let whole := total * weights.getD i 0
        let share := (splitShares total weights).getD i 0
        (share = whole / weights.sum ∨ share = whole / weights.sum + 1) ∧
          (whole % weights.sum = 0 → share = whole / weights.sum)) ∧
  ∀ (bt : Batch) (p : Params), (∀ c ∈ bt.cabinets, 1 ≤ c.weight) → (bt.complete p).addsUp

/-! ## Settings, nodes and alarms -/

/-- O27. REPLY_LIMIT, LINK_OPTIONS, SET_EXPECT and the parameters other than the grant reserve: clamped into their
range, applied, and answered OK or CLAMPED with the value applied; nothing else changes (R134, R171, R178). -/
def Obligations.SettingsApplied : Prop :=
  ∀ (s : State) (n : Node) (tag value category cls id : Nat),
    s.inReset = false →
      exec (.replyLimit n tag value) s
        = .next ((s.setNode n { s.node n with replyLimit := max 48 (min 512 value) }).replied n tag .replyLimit
            (if 48 ≤ value ∧ value ≤ 512 then .ok else .clamped) (.applied (max 48 (min 512 value)))) ∧
      exec (.linkOptions n tag value) s
        = .next ((s.setNode n { s.node n with
            burstHalt := decide (value % 2 = 1), fixedLength := decide (value / 2 % 2 = 1) }).replied n tag
              .linkOptions .ok .none) ∧
      (roleOf n = .supervisory →
        (¬(1 ≤ category ∧ category ≤ 5 ∧ 1 ≤ cls ∧ cls ≤ 4) →
          exec (.setExpect n tag category cls value) s = .next (s.replied n tag .setExpect .badArgument .none)) ∧
        (∀ cat ∈ categoryOfCode category, ∀ g ∈ classOfCode cls,
          exec (.setExpect n tag category cls value) s
            = .next ({ s with batches := { s.batches with
                expect := s.batches.expect.set (expectIx cat g) (max 1 (min 9999 value)) } }.replied n tag .setExpect
                  (if 1 ≤ value ∧ value ≤ 9999 then .ok else .clamped) (.applied (max 1 (min 9999 value))))) ∧
        (id = 0 ∨ 9 < id →
          exec (.setParam n tag id value) s = .next (s.replied n tag .setParam .badArgument .none)) ∧
        (id ≠ 4 → ∀ r ∈ paramRange id,
          exec (.setParam n tag id value) s
            = .next ({ s with params := s.params.setId id (max r.1 (min r.2 value)) }.replied n tag .setParam
                (if r.1 ≤ value ∧ value ≤ r.2 then .ok else .clamped) (.applied (max r.1 (min r.2 value))))))

/-- O28. SET_PARAM of the grant reserve re-evaluates every READY and FULL bay at once. For each bay that falls
VESSEL_FULL is counted, up to 255, the highest of them its subject and its group's flag set; the bays that rise are
handed to the Wait List in ascending number, each scan from the state the one before left (R43, R90, R91, R176,
R178). -/
def Obligations.ReserveIsReviewed : Prop :=
  ∀ (s : State) (n : Node) (tag value : Nat),
    s.inReset = false → roleOf n = .supervisory →
      let reserve := max 100 (min 20000 value)
      let room (b : BayIx) : Nat := ((s.bay b).headroom).getD 0
      let falls (b : BayIx) : Bool := decide ((s.bay b).state = .ready ∧ room b < reserve)
      let rises (b : BayIx) : Bool := decide ((s.bay b).state = .full ∧ reserve ≤ room b ∧ (s.channel b).state = .ok)
      let falling := allBays.filter falls
      ∃ reviewed : State,
        (∀ b : BayIx, reviewed.bay b = { s.bay b with
          state := if falls b then .full else if rises b then .ready else (s.bay b).state }) ∧
        reviewed.params = { s.params with grantReserve := reserve } ∧
        (∀ k : AlarmKind, reviewed.alarms.recs[alarmIx k] =
          if k = .vesselFull ∧ falling ≠ [] then
            { count := min 255 ((s.alarms.recs[alarmIx k]).count + falling.length),
              subject := falling.getLast?.map (·.val), value := 0 }
          else s.alarms.recs[alarmIx k]) ∧
        (∀ h : Fin 4, reviewed.alarms.groups[h]
          = (s.alarms.groups[h] || decide (h = alarmGroupOf .vesselFull ∧ falling ≠ []))) ∧
        { reviewed with bays := s.bays, params := s.params, alarms := s.alarms } = s ∧
        exec (.setParam n tag 4 value) s
          = .next (((allBays.filter rises).foldl State.oldestServed reviewed).replied n tag .setParam
              (if 100 ≤ value ∧ value ≤ 20000 then .ok else .clamped) (.applied reserve))

/-- O29. LINK_STATS answers a node's counter and flag as they stood and clears both in the same step; a station or a
foam line that names another node is answered OWNER, and an address outside 1 to 12 BAD_ARGUMENT (R172). -/
def Obligations.LinkStatsClears : Prop :=
  ∀ (s : State) (n : Node) (tag addr : Nat),
    s.inReset = false →
      (addr = 0 ∨ 12 < addr →
        exec (.linkStats n tag addr) s = .next (s.replied n tag .linkStats .badArgument .none)) ∧
      ∀ m ∈ nodeOfAddr addr,
        (roleOf n ≠ .supervisory → m ≠ n →
          exec (.linkStats n tag addr) s = .next (s.replied n tag .linkStats .owner .none)) ∧
        ((roleOf n = .supervisory ∨ m = n) →
          exec (.linkStats n tag addr) s
            = .next ((s.setNode m { s.node m with errCount := 0, saturated := false }).replied n tag .linkStats .ok
                (.linkStats m (s.node m).errCount (s.node m).saturated)))

/-- O30. SET_DIGEST replaces the list and resets the cursor where every item is in range and none is there twice;
otherwise it changes nothing. ALARM_READ answers a group as it stood and clears it, and touches no other group (R174,
R177). -/
def Obligations.DigestsAndAlarms : Prop :=
  ∀ (s : State) (n : Node) (tag group : Nat) (items : List (Nat × Nat)),
    s.inReset = false →
      let good := items.length ≤ 12 ∧ items.Nodup ∧ ∀ i ∈ items,
        (1 ≤ i.1 ∧ i.1 ≤ 4 ∧ i.2 ≤ 7) ∨ (5 ≤ i.1 ∧ i.1 ≤ 7 ∧ i.2 = 0) ∨ (i.1 = 8 ∧ 1 ≤ i.2 ∧ i.2 ≤ 12) ∨
          (i.1 = 9 ∧ 1 ≤ i.2 ∧ i.2 ≤ 2)
      (¬ good → exec (.setDigest n tag items) s = .next (s.replied n tag .setDigest .badArgument .none)) ∧
      (good → exec (.setDigest n tag items) s
        = .next ((s.setNode n { s.node n with digest := items, cursor := 0 }).replied n tag .setDigest .ok .none)) ∧
      (roleOf n = .supervisory →
        (group = 0 ∨ 4 < group →
          exec (.alarmRead n tag group) s = .next (s.replied n tag .alarmRead .badArgument .none)) ∧
        ∀ g : Fin 4, group = g.val + 1 →
          ∃ t, exec (.alarmRead n tag group) s = .next t ∧
            (∀ k : AlarmKind, t.alarms.recs[alarmIx k] =
              if alarmGroupOf k = g then { count := 0, subject := none, value := 0 } else s.alarms.recs[alarmIx k]) ∧
            (∀ h : Fin 4, t.alarms.groups[h] = if h = g then false else s.alarms.groups[h]) ∧
            t.lastReply = some { node := n, tag := tag, kind := .alarmRead, status := .ok,
                                 body := .alarmGroup g ((allAlarmKinds.filter (fun k => decide (alarmGroupOf k = g))).map
                                   (fun k => (k, s.alarms.recs[alarmIx k]))) } ∧
            { t with alarms := s.alarms, lastReply := s.lastReply } = s)

/-! ## Vessel bays and the Definition Store -/

/-- O31. VESSEL_MOUNT: the checks in their order; a mount defines the vessel with nothing in it, starts the write of the
full definition, and takes the bay to SETTLING with a BASELINE window or to HOLD (R31, R32, R39, R53). -/
def Obligations.MountDefinesVessel : Prop :=
  ∀ (s : State) (n : Node) (tag bay vid cls capacity tare : Nat),
    s.inReset = false → roleOf n = .supervisory →
      (8 ≤ bay ∨ vid = 0 ∨ cls = 0 ∨ 4 < cls ∨ capacity < 50 ∨ 5000 < capacity ∨ tare < 1000 ∨ 400000 < tare →
        exec (.vesselMount n tag bay vid cls capacity tare) s
          = .next (s.replied n tag .vesselMount .badArgument .none)) ∧
      ∀ b ∈ bayOfArg bay, ∀ g ∈ classOfCode cls,
        (1000000 < tare + capacity * fillDensity g →
          exec (.vesselMount n tag bay vid cls capacity tare) s
            = .next (s.replied n tag .vesselMount .badArgument .none)) ∧
        (vid ≠ 0 → 50 ≤ capacity → capacity ≤ 5000 → 1000 ≤ tare → tare ≤ 400000 →
          tare + capacity * fillDensity g ≤ 1000000 →
            ((s.bay b).state ≠ .absent → (s.bay b).state ≠ .sealed →
              exec (.vesselMount n tag bay vid cls capacity tare) s
                = .next (s.replied n tag .vesselMount .wrongState .none)) ∧
            ((s.bay b).state = .absent ∨ (s.bay b).state = .sealed →
              let taken := ∃ c : BayIx, c ≠ b ∧ (s.bay c).state ≠ .absent ∧ (s.bay c).state ≠ .sealed ∧
                ∃ v ∈ (s.bay c).vessel, v.id = vid
              let v : Vessel := { id := vid, cls := g, capacity := capacity, tare := tare }
              let mounted (st : BayState) : State :=
                ((s.setBay b { s.bay b with
                  state := st, vessel := some v, net := 0, source := .initial, book := 0, unreconciled := 0,
                  closeWatch := none }).setFeed b none).setStoreOp
                    (.writing b (.definition v (s.bay b).zero (s.bay b).scale) (s.now + 30))
              (taken → exec (.vesselMount n tag bay vid cls capacity tare) s
                = .next (s.replied n tag .vesselMount .duplicate .none)) ∧
              (¬ taken → s.store.op ≠ .idle → exec (.vesselMount n tag bay vid cls capacity tare) s
                = .next (s.replied n tag .vesselMount .storeBusy .none)) ∧
              (¬ taken → s.store.op = .idle → (s.channel b).state ≠ .ok →
                exec (.vesselMount n tag bay vid cls capacity tare) s
                  = .next ((mounted .hold).replied n tag .vesselMount .ok .none)) ∧
              (¬ taken → s.store.op = .idle → (s.channel b).state = .ok →
                exec (.vesselMount n tag bay vid cls capacity tare) s
                  = .next (((mounted .settling).setChannel b { s.channel b with
                      window := some (Window.opened .baseline s.now s.params.settleTime) }).replied n tag .vesselMount
                        .ok .none))))

/-- O32. VESSEL_RETIRE seals a READY, FULL or HOLD bay and starts a cleared write; VESSEL_CLEAR_FAULT takes a FAULT bay
whose switch reads closed back to service; each with its refusals in order (R33, R37, R39, R53). -/
def Obligations.RetireAndClearFault : Prop :=
  ∀ (s : State) (n : Node) (tag bay : Nat),
    s.inReset = false → roleOf n = .supervisory →
      (8 ≤ bay →
        exec (.vesselRetire n tag bay) s = .next (s.replied n tag .vesselRetire .badArgument .none) ∧
        exec (.vesselClearFault n tag bay) s = .next (s.replied n tag .vesselClearFault .badArgument .none)) ∧
      ∀ b ∈ bayOfArg bay,
        ((s.bay b).state = .absent ∨ (s.bay b).state = .sealed →
          exec (.vesselRetire n tag bay) s = .next (s.replied n tag .vesselRetire .wrongState .none)) ∧
        ((s.bay b).state = .feeding ∨ (s.bay b).state = .closing ∨ (s.bay b).state = .settling ∨
            (s.bay b).state = .fault →
          exec (.vesselRetire n tag bay) s = .next (s.replied n tag .vesselRetire .bayBusy .none)) ∧
        ((s.bay b).state = .ready ∨ (s.bay b).state = .full ∨ (s.bay b).state = .hold →
          (s.store.op ≠ .idle →
            exec (.vesselRetire n tag bay) s = .next (s.replied n tag .vesselRetire .storeBusy .none)) ∧
          (s.store.op = .idle →
            exec (.vesselRetire n tag bay) s
              = .next (((s.setBay b { s.bay b with state := .sealed }).setStoreOp
                  (.writing b .cleared (s.now + 30))).replied n tag .vesselRetire .ok .none))) ∧
        ((s.bay b).state ≠ .fault ∨ s.switch b = false →
          exec (.vesselClearFault n tag bay) s = .next (s.replied n tag .vesselClearFault .wrongState .none)) ∧
        ((s.bay b).state = .fault → s.switch b = true → (s.channel b).state ≠ .ok →
          exec (.vesselClearFault n tag bay) s
            = .next ((s.setBay b { s.bay b with state := .hold }).replied n tag .vesselClearFault .ok .none)) ∧
        ((s.bay b).state = .fault → s.switch b = true → (s.channel b).state = .ok →
          exec (.vesselClearFault n tag bay) s
            = .next (((s.setBay b { s.bay b with state := .settling }).setChannel b { s.channel b with
                window := some (Window.opened .baseline s.now s.params.settleTime) }).replied n tag .vesselClearFault
                  .ok .none))

/-- O33. CALIBRATE sets zero and scale at once, starts the store write and re-settles a bay in service; with the zero
16,777,215 it engages the store and opens a ZERO_CAPTURE window on an empty ABSENT bay; refusals in order (R34, R35,
R38, R39, R53). -/
def Obligations.CalibrateSets : Prop :=
  ∀ (s : State) (n : Node) (tag bay zeroAt scale : Nat),
    s.inReset = false → roleOf n = .supervisory → zeroAt < 16777215 →
      (8 ≤ bay ∨ scale = 0 →
        exec (.calibrate n tag bay zeroAt scale) s = .next (s.replied n tag .calibrate .badArgument .none) ∧
        exec (.calibrateZeroCapture n tag bay scale) s = .next (s.replied n tag .calibrate .badArgument .none)) ∧
      (scale ≠ 0 → ∀ b ∈ bayOfArg bay,
        ((s.bay b).state = .settling ∨ (s.bay b).state = .feeding ∨ (s.bay b).state = .closing ∨
            (s.bay b).state = .fault →
          exec (.calibrate n tag bay zeroAt scale) s = .next (s.replied n tag .calibrate .bayBusy .none) ∧
          exec (.calibrateZeroCapture n tag bay scale) s = .next (s.replied n tag .calibrate .bayBusy .none)) ∧
        ((s.bay b).state = .ready ∨ (s.bay b).state = .full ∨ (s.bay b).state = .hold →
          exec (.calibrateZeroCapture n tag bay scale) s = .next (s.replied n tag .calibrate .wrongState .none) ∧
          (s.store.op ≠ .idle →
            exec (.calibrate n tag bay zeroAt scale) s = .next (s.replied n tag .calibrate .storeBusy .none)) ∧
          (s.store.op = .idle → ∀ v ∈ (s.bay b).vessel,
            let calibrated (st : BayState) : State :=
              (s.setBay b { s.bay b with state := st, zero := zeroAt, scale := scale }).setStoreOp
                (.writing b (.definition v zeroAt scale) (s.now + 30))
            ((s.channel b).state ≠ .ok → exec (.calibrate n tag bay zeroAt scale) s
              = .next ((calibrated .hold).replied n tag .calibrate .ok .none)) ∧
            ((s.channel b).state = .ok → exec (.calibrate n tag bay zeroAt scale) s
              = .next (((calibrated .settling).setChannel b { s.channel b with
                  window := some (Window.opened .baseline s.now s.params.settleTime) }).replied n tag .calibrate .ok
                    .none)))) ∧
        ((s.bay b).state = .absent ∨ (s.bay b).state = .sealed →
          (s.store.op ≠ .idle →
            exec (.calibrate n tag bay zeroAt scale) s = .next (s.replied n tag .calibrate .storeBusy .none)) ∧
          (s.store.op = .idle →
            exec (.calibrate n tag bay zeroAt scale) s
              = .next (((s.setBay b { s.bay b with zero := zeroAt, scale := scale }).setStoreOp
                  (.writing b (.calibration zeroAt scale) (s.now + 30))).replied n tag .calibrate .ok .none)) ∧
          ((s.bay b).state = .sealed ∨ (s.channel b).state ≠ .ok →
            exec (.calibrateZeroCapture n tag bay scale) s = .next (s.replied n tag .calibrate .wrongState .none)) ∧
          ((s.bay b).state = .absent → (s.channel b).state = .ok →
            (s.store.op ≠ .idle → exec (.calibrateZeroCapture n tag bay scale) s
              = .next (s.replied n tag .calibrate .storeBusy .none)) ∧
            (s.store.op = .idle → exec (.calibrateZeroCapture n tag bay scale) s
              = .next (((s.setStoreOp (.capture b scale)).setChannel b { s.channel b with
                  window := some { purpose := .zeroCapture, phase := .average, settleDeadline := none, setNo := 1,
                                   band := none, samples := [] } }).replied n tag .calibrate .ok .none)))))

/-- O34. The end of a store write replaces the record of its bay with the contents and a good check, and the store is no
longer busy; a write cut short by the reset input leaves its record with a bad check (R38, R39, R40, R146). The check is
held as good or bad (log 6), and a store that writes nothing, idle or engaged by a zero capture, is left as it was (log
20). -/
def Obligations.StoreWriteEnds : Prop :=
  ∀ (s : State) (b : BayIx) (c : StoreContents) (latest : Nat),
    s.inReset = false →
      (s.store.op = .writing b c latest →
        exec .storeWriteEnd s
          = .next { s with store := { recs := s.store.recs.set b { contents := c, good := true }, op := .idle } } ∧
        ∃ t, exec .resetAssert s = .next t ∧
          t.store = { recs := s.store.recs.set b { s.store.recs[b] with good := false }, op := .idle }) ∧
      ((s.store.op = .idle ∨ ∃ bay : BayIx, s.store.op.captures bay ≠ none) → exec .storeWriteEnd s = .next s)

/-- O35. A switch that comes to read closed confirms a running close watch: the FEED_END window opens where the feed is
not booked and the channel is OK, and a booked feed is freed and its bay goes to HOLD or SETTLING; without a watch, and
for a switch that comes to read open, the reading changes and nothing else. The expiry of a close watch takes the bay to
FAULT, counts VALVE_FAULT, frees the feed, and books an unbooked one by its estimate: to the unit, or to the segment of
its batch. A DEFERRED FEED_CLOSE is released with the outcome, and a CLOSING batch whose last segment it settles
completes with its DEFERRED FOAM_CLOSE released; a watch ahead, or none, is no expiry (R28, R29, R30, R37, R80, R81,
R102, R107, R116, R130). The clock is the model's (logs 2, 20), and so is that a switch that reads closed at the very
moment of the deadline, its expiry not yet taken, confirms (log 28). -/
def Obligations.CloseWatchEnds : Prop :=
  ∀ (s : State) (b : BayIx) (arrival : Nat),
    exec (.switchOpen b) s = .next (s.setSwitch b false) ∧
    (s.inReset = false →
      ((s.bay b).state ≠ .closing ∨ (s.bay b).closeWatch = none →
        exec (.switchClosed b) s = .next (s.setSwitch b true)) ∧
      ((s.bay b).state = .closing → (s.bay b).closeWatch ≠ none → ∀ f ∈ s.feed b,
        (f.booked = false → (s.channel b).state = .ok →
          exec (.switchClosed b) s
            = .next (((s.setSwitch b true).setBay b { s.bay b with closeWatch := none }).setChannel b { s.channel b with
                window := some (Window.opened .feedEnd s.now s.params.settleTime) })) ∧
        (f.booked = true → (s.channel b).state ≠ .ok →
          exec (.switchClosed b) s
            = .next (((s.setSwitch b true).setFeed b none).setBay b { s.bay b with
                state := .hold, closeWatch := none })) ∧
        (f.booked = true → (s.channel b).state = .ok →
          exec (.switchClosed b) s
            = .next ((((s.setSwitch b true).setFeed b none).setBay b { s.bay b with
                state := .settling, closeWatch := none }).setChannel b { s.channel b with
                  window := some (Window.opened .baseline s.now s.params.settleTime) })))) ∧
    (s.inReset = false →
      ((s.bay b).closeWatch = none → exec (.closeWatchExpiry b arrival) s = .next (s.advance arrival)) ∧
      ∀ d ∈ (s.bay b).closeWatch,
        (max s.now arrival < d → exec (.closeWatchExpiry b arrival) s = .next (s.advance arrival)) ∧
        (d ≤ max s.now arrival → ∀ f ∈ s.feed b,
          (f.booked = true →
            exec (.closeWatchExpiry b arrival) s
              = .next ((((s.advance arrival).setBay b { s.bay b with state := .fault, closeWatch := none }).alarm
                  .valveFault (some b.val)).setFeed b none)) ∧
          (f.booked = false →
            let held := min 1000000 (f.startNet + f.estimate)
            let left : State := (((s.advance arrival).setBay b { s.bay b with
              state := .fault, closeWatch := none, net := held, book := held, source := .estimated }).alarm .valveFault
                (some b.val)).setFeed b none
            (∀ unit ∈ f.purpose.unit?,
              let told : State := (left.modUnit unit (fun u => { u with
                recovered := min 999999 (u.recovered + f.estimate), feedCount := min 255 (u.feedCount + 1),
                estimated := true })).gainTold f.owner f.estimate true
              ((s.node f.owner).slot.awaits .feedClose = false →
                exec (.closeWatchExpiry b arrival) s = .next told) ∧
              (∀ tag : Nat, (s.node f.owner).slot = .deferred tag .feedClose → ∀ o ∈ (s.node f.owner).outcome,
                exec (.closeWatchExpiry b arrival) s = .next (told.released f.owner tag .feedClose
                  (.outcome { o with settled := true, gain := some f.estimate, estimated := true })))) ∧
            (∀ l ∈ f.purpose.line?, ∀ bt ∈ (s.line l).current, ∀ k : Nat, f.purpose = .batch l bt.number k →
              let booked := bt.segmentBooked k f.estimate true false
              ((s.node f.owner).slot.awaits .feedClose = false →
                bt.state ≠ .closing ∨ (∃ x ∈ booked.segments, x.settled = false) →
                  exec (.closeWatchExpiry b arrival) s
                    = .next ((left.setLine l { s.line l with current := some booked }).gainTold f.owner f.estimate
                        true)) ∧
              (bt.state = .closing → (∀ x ∈ booked.segments, x.settled = true) → f.owner = nodeOfLine l →
                ∀ tag : Nat, (s.node f.owner).slot = .deferred tag .foamClose →
                  exec (.closeWatchExpiry b arrival) s
                    = .next (((left.batchDone l booked).gainTold f.owner f.estimate true).released f.owner tag
                        .foamClose booked.doneBody))))))

/-! ## Weighing -/

/-- O36. Raw code to grams: the difference times the scale over 65,536, rounded half up and clamped to 1,000,000 g, and
0 with the under flag below the zero (R50). A valid sample on a channel that is not OK counts toward the run and updates
gross, under flag and silence deadline; the tenth makes the channel OK, takes a HOLD bay to SETTLING with a BASELINE
window, takes a FEEDING bay's feed out of estimate mode with book at net, ending it FULL where that sample's live net
has reached max fill, and leaves a bay that is neither as it is (R27, R45, R49, R52, R60). -/
def Obligations.SamplesOpenChannel : Prop :=
  ∀ (s : State) (b : BayIx) (raw zeroAt scale : Nat),
    (raw < zeroAt → grossOf raw zeroAt scale = (0, true)) ∧
    (zeroAt ≤ raw → (grossOf raw zeroAt scale).2 = false ∧
      ((grossOf raw zeroAt scale).1 = 1000000 ∧ 1999999 * 32768 ≤ (raw - zeroAt) * scale ∨
        (grossOf raw zeroAt scale).1 < 1000000 ∧
          65536 * (grossOf raw zeroAt scale).1 ≤ (raw - zeroAt) * scale + 32768 ∧
          (raw - zeroAt) * scale + 32768 < 65536 * ((grossOf raw zeroAt scale).1 + 1))) ∧
    (s.inReset = false → raw < 16777215 → (s.channel b).state ≠ .ok →
      let heard (st : ChannelState) : Channel := { s.channel b with
        state := st, lastGross := (grossOf raw (s.bay b).zero (s.bay b).scale).1,
        under := (grossOf raw (s.bay b).zero (s.bay b).scale).2, silence := some (s.now + 200),
        validRun := min 10 ((s.channel b).validRun + 1) }
      ((s.channel b).validRun < 9 →
        exec (.sample b (.code raw)) s = .next (s.setChannel b (heard (s.channel b).state))) ∧
      (9 ≤ (s.channel b).validRun → (s.bay b).state ≠ .hold → (s.bay b).state ≠ .feeding →
        exec (.sample b (.code raw)) s = .next (s.setChannel b (heard .ok))) ∧
      (9 ≤ (s.channel b).validRun → (s.bay b).state = .hold →
        exec (.sample b (.code raw)) s
          = .next ((s.setBay b { s.bay b with state := .settling }).setChannel b { heard .ok with
              window := some (Window.opened .baseline s.now s.params.settleTime) })) ∧
      (9 ≤ (s.channel b).validRun → (s.bay b).state = .feeding → ∀ f ∈ s.feed b, ∀ v ∈ (s.bay b).vessel,
        let weighs : Feed := { f with weightKept := true }
        let back : State :=
          ((s.setChannel b (heard .ok)).setFeed b (some weighs)).setBay b { s.bay b with book := (s.bay b).net }
        let live := (grossOf raw (s.bay b).zero (s.bay b).scale).1 - v.tare
        (live < v.capacity * fillDensity v.cls → exec (.sample b (.code raw)) s = .next back) ∧
        (v.capacity * fillDensity v.cls ≤ live → f.state = .feeding →
          exec (.sample b (.code raw)) s
            = .next ((back.endsWeighed b weighs .full).purposeEnds f.purpose .full))))

/-- O37. The settle deadline takes a window to phase AVERAGE with set 1 and the band as it stands. A valid sample in
phase WAIT is not collected; each of the first seven of an averaging set is, its gross, or its raw code for a zero
capture, whatever the window is for; and the eighth of a BASELINE set within its band settles the bay: net and book take
the settled net, and the bay goes to READY with its grant scan, or to FULL with VESSEL_FULL. Where an estimated booking
wrote the net last (log 7), unreconciled takes the settled net less the book and CHANNEL_RESTORED is counted with it
(R26, R45, R54, R55, R57, R59, R61, R90). The clock is the model's (log 2). -/
def Obligations.WindowSettles : Prop :=
  ∀ (s : State) (b : BayIx) (raw arrival : Nat),
    s.inReset = false → ∀ w ∈ (s.channel b).window,
      (w.phase = .wait → ∀ d ∈ w.settleDeadline,
        (max s.now arrival < d → exec (.settleDeadline b arrival) s = .next (s.advance arrival)) ∧
        (d ≤ max s.now arrival →
          exec (.settleDeadline b arrival) s
            = .next ((s.advance arrival).setChannel b { s.channel b with
                window := some { w with
                  phase := .average, setNo := 1, band := some s.params.stabilityBand, samples := [] } }))) ∧
      ((s.channel b).state = .ok → (s.bay b).state ≠ .feeding → raw < 16777215 →
          let gross := (grossOf raw (s.bay b).zero (s.bay b).scale).1
          let taken := w.samples ++ [gross]
          let heard : Channel := { s.channel b with
            lastGross := gross, under := (grossOf raw (s.bay b).zero (s.bay b).scale).2, silence := some (s.now + 200),
            validRun := min 10 ((s.channel b).validRun + 1) }
          (w.phase = .wait → exec (.sample b (.code raw)) s = .next (s.setChannel b heard)) ∧
          (w.phase = .average → w.samples.length < 7 →
            exec (.sample b (.code raw)) s
              = .next (s.setChannel b { heard with window := some { w with
                  samples := w.samples ++ [if w.purpose = .zeroCapture then raw else gross] } })) ∧
          (w.phase = .average → w.purpose = .baseline → (s.bay b).state = .settling → w.samples.length = 7 →
            (∀ x ∈ taken, ∀ y ∈ taken, x ≤ y + w.band.getD 0) → ∀ v ∈ (s.bay b).vessel,
            let net := (2 * taken.sum + 8) / 16 - v.tare
            let gap : Int := (net : Int) - ((s.bay b).book : Int)
            let settled (st : BayState) : State := (s.setChannel b { heard with window := none }).setBay b { s.bay b with
              state := st, net := net, book := net, source := .settled }
            let reconciled (st : BayState) : State := ((settled st).setBay b { (settled st).bay b with
              unreconciled := gap }).alarm .channelRestored (some b.val) gap
            (s.params.grantReserve ≤ v.capacity * fillDensity v.cls - net →
              ((s.bay b).source ≠ .estimated →
                exec (.sample b (.code raw)) s = .next ((settled .ready).oldestServed b)) ∧
              ((s.bay b).source = .estimated →
                exec (.sample b (.code raw)) s = .next ((reconciled .ready).oldestServed b))) ∧
            (v.capacity * fillDensity v.cls - net < s.params.grantReserve →
              ((s.bay b).source ≠ .estimated →
                exec (.sample b (.code raw)) s = .next ((settled .full).alarm .vesselFull (some b.val))) ∧
              ((s.bay b).source = .estimated →
                exec (.sample b (.code raw)) s = .next ((reconciled .full).alarm .vesselFull (some b.val))))))

/-- O38. The eighth sample of a FEED_END set within its band, or of set 4 outside it, completes the feed of a CLOSING
bay by weight: the gain, never below 0, is booked to the unit or the segment and to the owner's outcome field; a
deferred FEED_CLOSE is released; the feed is freed; the bay is READY with its grant scan, or FULL with VESSEL_FULL. A
gain below 0 marks the unit and counts NEGATIVE_GAIN; an unstable reading marks unit or batch and counts
UNSTABLE_READING. A CLOSING batch whose last segment it settles completes, and its deferred FOAM_CLOSE is released with
the completion body (R10, R26, R30, R56, R59, R80, R90, R100, R101, R107, R116, R130). -/
def Obligations.WeighedFeedBooks : Prop :=
  ∀ (s : State) (b : BayIx) (raw : Nat) (unstable : Bool),
    s.inReset = false → raw < 16777215 → (s.channel b).state = .ok → (s.bay b).state = .closing →
      ∀ w ∈ (s.channel b).window, w.phase = .average → w.purpose = .feedEnd → w.samples.length = 7 →
        let g := grossOf raw (s.bay b).zero (s.bay b).scale
        let taken := w.samples ++ [g.1]
        let steady : Prop := ∀ x ∈ taken, ∀ y ∈ taken, x ≤ y + w.band.getD 0
        (unstable = false → steady) → (unstable = true → ¬ steady ∧ 4 ≤ w.setNo) →
          ∀ f ∈ s.feed b, f.booked = false → ∀ v ∈ (s.bay b).vessel,
            let net := (2 * taken.sum + 8) / 16 - v.tare
            let gain := net - f.startNet
            let fits := s.params.grantReserve ≤ v.capacity * fillDensity v.cls - net
            let heard : State := s.setChannel b { s.channel b with
              lastGross := g.1, under := g.2, silence := some (s.now + 200),
              validRun := min 10 ((s.channel b).validRun + 1), window := none }
            let judged : State := if unstable then heard.alarm .unstableReading (some b.val) else heard
            let netted : State := judged.netTaken b (if fits then .ready else .full) net
            let weighed : State :=
              (if net < f.startNet then netted.alarm .negativeGain (some b.val) else netted).setFeed b none
            let freed (t : State) : State := if fits then t.oldestServed b else t.alarm .vesselFull (some b.val)
            (∀ unit ∈ f.purpose.unit?,
              let booked : State := (weighed.modUnit unit (fun u => { u with
                recovered := min 999999 (u.recovered + gain), feedCount := min 255 (u.feedCount + 1),
                marks := { u.marks with
                  negGain := u.marks.negGain || decide (net < f.startNet),
                  unstable := u.marks.unstable || unstable } })).gainTold f.owner gain false
              ((s.node f.owner).slot.awaits .feedClose = false →
                exec (.sample b (.code raw)) s = .next (freed booked)) ∧
              (∀ tag : Nat, (s.node f.owner).slot = .deferred tag .feedClose → ∀ o ∈ (s.node f.owner).outcome,
                exec (.sample b (.code raw)) s
                  = .next (freed (booked.released f.owner tag .feedClose
                      (.outcome { o with settled := true, gain := some gain, estimated := false }))))) ∧
            (∀ l ∈ f.purpose.line?, ∀ bt ∈ (s.line l).current, ∀ k : Nat, f.purpose = .batch l bt.number k →
              let booked := bt.segmentBooked k gain false unstable
              ((s.node f.owner).slot.awaits .feedClose = false →
                bt.state ≠ .closing ∨ (∃ x ∈ booked.segments, x.settled = false) →
                  exec (.sample b (.code raw)) s
                    = .next (freed ((weighed.setLine l { s.line l with current := some booked }).gainTold f.owner gain
                        false))) ∧
              (bt.state = .closing → (∀ x ∈ booked.segments, x.settled = true) → f.owner = nodeOfLine l →
                ∀ tag : Nat, (s.node f.owner).slot = .deferred tag .foamClose →
                  exec (.sample b (.code raw)) s
                    = .next (freed (((weighed.batchDone l booked).gainTold f.owner gain false).released f.owner tag
                        .foamClose booked.doneBody))))

/-- O39. A bay that settles READY serves the oldest entry whose class its vessel accepts and whose gas is allowed: the
entry leaves, the feed starts, a batch opens its next segment, and the node's slot is DELIVERABLE with OK and the grant
body, whatever wrote the bay's net before (R23, R26, R61, R67, R90, R91, R121, R153; log 7). -/
def Obligations.ReadyBayServesOldest : Prop :=
  ∀ (s : State) (b : BayIx) (raw : Nat),
    s.inReset = false → raw < 16777215 → (s.channel b).state = .ok → (s.bay b).state = .settling →
        ∀ w ∈ (s.channel b).window, w.phase = .average → w.purpose = .baseline → w.samples.length = 7 →
          let g := grossOf raw (s.bay b).zero (s.bay b).scale
          let taken := w.samples ++ [g.1]
          (∀ x ∈ taken, ∀ y ∈ taken, x ≤ y + w.band.getD 0) →
            ∀ v ∈ (s.bay b).vessel,
              let net := (2 * taken.sum + 8) / 16 - v.tare
              s.params.grantReserve ≤ v.capacity * fillDensity v.cls - net →
                ∀ e ∈ s.waits.find? (fun e => decide ((v.cls = e.cls ∨ v.cls = .mx) ∧
                    (e.cls = .hc ∨ e.cls = .mx → s.permitOn = true ∧ s.interlock.estop = false))),
                  let settled : State :=
                    ((s.setChannel b { s.channel b with
                      lastGross := g.1, under := g.2, silence := some (s.now + 200),
                      validRun := min 10 ((s.channel b).validRun + 1), window := none }).netTaken b .ready net).setWaits
                        (s.waits.filter (fun x => x.node != e.node))
                  let served (p : FeedPurpose) : State :=
                    ((settled.granted b e.node p e.cls).setSlot e.node (.deliverable {
                      tag := e.tag, kind := e.kind, status := .ok,
                      body := .grant b v.id (v.capacity * fillDensity v.cls - net) })).setPli { s.pli with
                        delivery := s.pli.delivery ++ [e.node] }
                  (∀ unit ∈ e.purpose.unit?, exec (.sample b (.code raw)) s = .next (served (.unit unit))) ∧
                  (∀ l ∈ e.purpose.line?, ∀ bt ∈ (s.line l).current, e.purpose = .batch l bt.number →
                    exec (.sample b (.code raw)) s
                      = .next ((served (.batch l bt.number (bt.segments.length + 1))).setLine l { s.line l with
                          current := some { bt with
                            state := .opened,
                            segments := bt.segments ++ [
                              { bay := b, endCause := none, settled := false, gain := none, estimated := false }] } }))

/-- O40. Samples on an OK channel: a FEEDING bay whose live net has reached max fill ends its feed FULL; with no window
a bay that is not FEEDING takes gross, under flag and silence deadline and nothing more; a set outside its band is
followed by the next with the band as it then stands, and the fourth of a BASELINE window is taken as unstable with
UNSTABLE_READING counted (that of a FEED_END window is in WeighedFeedBooks); eight codes of a zero capture make the zero
and start the calibration-only write (R26, R35, R39, R45, R52, R55, R56, R57, R61, R75, R90, R122). That the 30 ms of
that write run from the capture's completion is the model's choice (log 26). -/
def Obligations.SamplesEndFeedOrSet : Prop :=
  ∀ (s : State) (b : BayIx) (raw : Nat),
    s.inReset = false → raw < 16777215 → (s.channel b).state = .ok →
      let g := grossOf raw (s.bay b).zero (s.bay b).scale
      let heard (w : Option Window) : State := s.setChannel b { s.channel b with
        lastGross := g.1, under := g.2, silence := some (s.now + 200),
        validRun := min 10 ((s.channel b).validRun + 1), window := w }
      ((s.bay b).state = .feeding → (s.channel b).window = none → ∀ v ∈ (s.bay b).vessel,
        (g.1 - v.tare < v.capacity * fillDensity v.cls → exec (.sample b (.code raw)) s = .next (heard none)) ∧
        (v.capacity * fillDensity v.cls ≤ g.1 - v.tare → ∀ f ∈ s.feed b, f.state = .feeding →
          exec (.sample b (.code raw)) s
            = .next (((heard none).endsWeighed b f .full).purposeEnds f.purpose .full))) ∧
      ((s.bay b).state ≠ .feeding → (s.channel b).window = none →
        exec (.sample b (.code raw)) s = .next (heard none)) ∧
      ((s.bay b).state ≠ .feeding → ∀ w ∈ (s.channel b).window, w.phase = .average → w.samples.length = 7 →
        (w.purpose = .zeroCapture → ∀ scale ∈ s.store.op.captures b,
          let codes := w.samples ++ [raw]
          exec (.sample b (.code raw)) s
            = .next (((heard none).setBay b { s.bay b with
                zero := (2 * codes.sum + 8) / 16, scale := scale }).setStoreOp
                  (.writing b (.calibration ((2 * codes.sum + 8) / 16) scale) (s.now + 30)))) ∧
        (w.purpose ≠ .zeroCapture →
          let taken := w.samples ++ [g.1]
          (∃ x ∈ taken, ∃ y ∈ taken, y + w.band.getD 0 < x) →
            (w.setNo < 4 → exec (.sample b (.code raw)) s
              = .next (heard (some { w with
                  setNo := w.setNo + 1, band := some s.params.stabilityBand, samples := [] }))) ∧
            (4 ≤ w.setNo → w.purpose = .baseline → (s.bay b).state = .settling → ∀ v ∈ (s.bay b).vessel,
              let net := (2 * taken.sum + 8) / 16 - v.tare
              let unstable : State := (heard none).alarm .unstableReading (some b.val)
              (s.params.grantReserve ≤ v.capacity * fillDensity v.cls - net →
                exec (.sample b (.code raw)) s = .next ((unstable.netTaken b .ready net).oldestServed b)) ∧
              (v.capacity * fillDensity v.cls - net < s.params.grantReserve →
                exec (.sample b (.code raw)) s
                  = .next ((unstable.netTaken b .full net).alarm .vesselFull (some b.val))))))

/-- O41. An invalid sample, or silence for 200 ms, on an OK channel makes it LOST and counts CHANNEL_LOST; a window
ends, a zero capture releases the store with nothing written, a SETTLING or READY bay goes to HOLD, a FEEDING bay's book
takes start net plus the estimate. An unbooked feed of a CLOSING bay is booked by its estimate: to unit or segment,
outcome field, net and book, with a deferred FEED_CLOSE or FOAM_CLOSE released; with the watch confirmed the feed is
freed and the bay goes to HOLD. On another channel it ends the run (R27, R30, R35, R45, R46, R47, R48, R58, R60, R81,
R82, R130). The clock is the model's (log 2); a deadline ahead, or none, changes nothing else (log 20). -/
def Obligations.ChannelIsLost : Prop :=
  ∀ (s : State) (b : BayIx) (arrival : Nat),
    s.inReset = false →
      let silent : Bool := (s.channel b).silence.any (fun d => decide (d ≤ max s.now arrival))
      (silent = false → exec (.silenceDeadline b arrival) s = .next (s.advance arrival)) ∧
      ∀ p ∈ [(Instr.sample b .converterFault, s), (.sample b (.code 16777215), s)]
          ++ (if silent then [(.silenceDeadline b arrival, s.advance arrival)] else []),
        let unheard : Channel := { s.channel b with validRun := 0, silence := none }
        ((s.channel b).state ≠ .ok → exec p.1 s = .next (p.2.setChannel b unheard)) ∧
        ((s.channel b).state = .ok →
          let lost : State := ((p.2.setChannel b { unheard with state := .lost, window := none }).alarm .channelLost
            (some b.val)).setStoreOp (if s.store.op.captures b = none then s.store.op else .idle)
          ((s.bay b).state = .settling ∨ (s.bay b).state = .ready →
            exec p.1 s = .next (lost.setBay b { s.bay b with state := .hold })) ∧
          ((s.bay b).state = .absent ∨ (s.bay b).state = .sealed ∨ (s.bay b).state = .hold ∨ (s.bay b).state = .full ∨
              (s.bay b).state = .fault →
            exec p.1 s = .next lost) ∧
          ∀ f ∈ s.feed b,
            let held := min 1000000 (f.startNet + f.estimate)
            ((s.bay b).state = .feeding →
              exec p.1 s
                = .next ((lost.setFeed b (some { f with weightKept := false })).setBay b { s.bay b with book := held })) ∧
            ((s.bay b).state = .closing → f.booked = true → (s.bay b).closeWatch ≠ none → exec p.1 s = .next lost) ∧
            ((s.bay b).state = .closing → f.booked = false →
              let left : State := if (s.bay b).closeWatch = none then
                  (lost.setFeed b none).setBay b { s.bay b with
                    state := .hold, net := held, book := held, source := .estimated }
                else (lost.setFeed b (some { f with weightKept := false, booked := true })).setBay b { s.bay b with
                  net := held, book := held, source := .estimated }
              (∀ unit ∈ f.purpose.unit?,
                let told : State := (left.modUnit unit (fun u => { u with
                  recovered := min 999999 (u.recovered + f.estimate), feedCount := min 255 (u.feedCount + 1),
                  estimated := true })).gainTold f.owner f.estimate true
                ((s.node f.owner).slot.awaits .feedClose = false → exec p.1 s = .next told) ∧
                (∀ tag : Nat, (s.node f.owner).slot = .deferred tag .feedClose → ∀ o ∈ (s.node f.owner).outcome,
                  exec p.1 s = .next (told.released f.owner tag .feedClose
                    (.outcome { o with settled := true, gain := some f.estimate, estimated := true })))) ∧
              (∀ l ∈ f.purpose.line?, ∀ bt ∈ (s.line l).current, ∀ k : Nat, f.purpose = .batch l bt.number k →
                let booked := bt.segmentBooked k f.estimate true false
                ((s.node f.owner).slot.awaits .feedClose = false →
                  bt.state ≠ .closing ∨ (∃ x ∈ booked.segments, x.settled = false) →
                    exec p.1 s = .next ((left.setLine l { s.line l with current := some booked }).gainTold f.owner
                      f.estimate true)) ∧
                (bt.state = .closing → (∀ x ∈ booked.segments, x.settled = true) → f.owner = nodeOfLine l →
                  ∀ tag : Nat, (s.node f.owner).slot = .deferred tag .foamClose →
                    exec p.1 s = .next (((left.batchDone l booked).gainTold f.owner f.estimate true).released f.owner
                      tag .foamClose booked.doneBody)))))

/-! ## Interlocks -/

/-- O42. The assertion of the E-stop, in a state whose feeds and slots are sound: no feed is left FEEDING, every valve
is closed, every entry has left with status ESTOP, ESTOP_ON is counted once, and flag and gas-healthy stand (R96, R136,
R142). An assertion at the same level is no event (log 20). -/
def Obligations.EstopEndsEverything : Prop :=
  ∀ (s : State),
    s.inReset = false → SlotsOk s → FeedsOk s →
      (s.interlock.estop = true → exec .estopAssert s = .next s) ∧
      (s.interlock.estop = false →
        ∃ t, exec .estopAssert s = .next t ∧
          t.interlock = { s.interlock with estop := true } ∧ t.waits = [] ∧
          (∀ b : BayIx, t.valve b = false ∧ (t.bay b).state ≠ .feeding) ∧
          (∀ b : BayIx, ∀ f ∈ s.feed b, f.state = .feeding → ∀ g ∈ t.feed b, g.endCause = some .estop) ∧
          (∀ b : BayIx, (s.bay b).state ≠ .feeding → t.bay b = s.bay b ∧ t.feed b = s.feed b) ∧
          (∀ e ∈ s.waits, (t.node e.node).slot
            = .deliverable { tag := e.tag, kind := e.kind, status := .estop, body := .none }) ∧
          t.alarms.recs[alarmIx .estopOn]
            = { count := min 255 ((s.alarms.recs[alarmIx .estopOn]).count + 1), subject := none, value := 0 })

/-- O43. The release of the E-stop changes the E-stop item and does nothing more (R144). -/
def Obligations.EstopReleaseChangesOnlyItem : Prop :=
  ∀ (s : State), exec .estopRelease s = .next { s with interlock := { s.interlock with estop := false } }

/-- O44. PERMIT, GAS_HEALTHY and GAS_NOT_HEALTHY where no permit drop follows: the item changes, a rise starts nothing,
and PERMIT answers the four items as they then stand (R136, R137, R140). -/
def Obligations.PermitRisesQuietly : Prop :=
  ∀ (s : State) (n : Node) (tag value : Nat),
    s.inReset = false →
      exec .gasHealthy s = .next { s with interlock := { s.interlock with healthy := true } } ∧
      (s.interlock.flag = false ∨ s.interlock.healthy = false →
        exec .gasNotHealthy s = .next { s with interlock := { s.interlock with healthy := false } }) ∧
      (roleOf n = .supervisory →
        (1 < value → exec (.permit n tag value) s = .next (s.replied n tag .permit .badArgument .none)) ∧
        exec (.permit n tag 1) s
          = .next ({ s with interlock := { s.interlock with flag := true } }.replied n tag .permit .ok
              (.interlock s.interlock.healthy true s.interlock.healthy s.interlock.estop)) ∧
        (s.interlock.flag = false ∨ s.interlock.healthy = false →
          exec (.permit n tag 0) s
            = .next ({ s with interlock := { s.interlock with flag := false } }.replied n tag .permit .ok
                (.interlock false false s.interlock.healthy s.interlock.estop))))

/-- O45. A permit drop, by the gas-detection input or by PERMIT off, in a state whose feeds and slots are sound: every
flammable feed in FEEDING has ended INTERLOCK, every flammable entry has left with PERMIT_OFF, the others stand, and
PERMIT_DROPPED is counted once (R96, R137, R138). -/
def Obligations.PermitDropEndsFlammable : Prop :=
  ∀ (s : State) (n : Node) (tag : Nat),
    s.inReset = false → SlotsOk s → FeedsOk s → s.interlock.flag = true → s.interlock.healthy = true →
      let dropped (t : State) : Prop :=
        t.permitOn = false ∧ t.interlock.estop = s.interlock.estop ∧
          t.waits = s.waits.filter (fun e => !flammable e.cls) ∧
          (∀ b : BayIx, ∀ f ∈ s.feed b,
            (flammable f.cls = true → f.state = .feeding →
              t.valve b = false ∧ (t.bay b).state ≠ .feeding ∧ ∀ g ∈ t.feed b, g.endCause = some .interlock) ∧
            (flammable f.cls = false ∨ f.state = .closing →
              t.feed b = s.feed b ∧ t.bay b = s.bay b ∧ t.valve b = s.valve b)) ∧
          (∀ e ∈ s.waits, flammable e.cls = true → (t.node e.node).slot
            = .deliverable { tag := e.tag, kind := e.kind, status := .permitOff, body := .none }) ∧
          t.alarms.recs[alarmIx .permitDropped]
            = { count := min 255 ((s.alarms.recs[alarmIx .permitDropped]).count + 1), subject := none, value := 0 }
      (∃ t, exec .gasNotHealthy s = .next t ∧ dropped t) ∧
      (roleOf n = .supervisory → ∃ t, exec (.permit n tag 0) s = .next t ∧ dropped t ∧
        t.lastReply = some { node := n, tag := tag, kind := .permit, status := .ok,
                             body := .interlock false false true s.interlock.estop })

/-! ## The plant line -/

/-- O46. ARBITRATION: on a FREE line the contender with the lowest address wins and the line goes to SELECTING, in one
step by the model's choice (log 9); the PLI contends with address 0 exactly while its delivery list is not empty; with
no contender, or a line that is not FREE, nothing changes. SELECT is answered with SELECT_ACK exactly where its receiver
is 0 and its sender is a master that won; when SELECT_ACK has gone out the line is CONNECTED with a fresh MASTER
connection and the partner is PRESENT (R148, R149, R168). That SELECTION_COMPLETE does nothing where no SELECT_ACK goes
out is log 20, and the field claimHold log 23. -/
def Obligations.LineIsWonAndSelected : Prop :=
  ∀ (s : State) (masters : List (BitVec 4)) (w : BitVec 4) (raw : RawFrame) (n : Node),
    s.inReset = false →
      (s.pli.line ≠ .free → exec (.arbitration masters) s = .next s) ∧
      (s.pli.line = .free →
        let won (address : Nat) : State := s.setPli {
          line := .selecting, winner := some address, delivery := s.pli.delivery, claimHold := s.pli.claimHold }
        (s.pli.delivery ≠ [] → exec (.arbitration masters) s = .next (won 0)) ∧
        (s.pli.delivery = [] → w ∈ masters → (∀ m ∈ masters, w.toNat ≤ m.toNat) →
          exec (.arbitration masters) s = .next (won w.toNat)) ∧
        (s.pli.delivery = [] → exec (.arbitration []) s = .next s)) ∧
      (s.pli.line = .selecting → s.pli.conn = none → s.pli.acking = none →
        (headerOf raw = none → exec (.select raw) s = .next s) ∧
        ∀ h ∈ headerOf raw, h.kind = 0x01 →
          (h.receiver ≠ 0 ∨ h.sender = 0 ∨ 12 < h.sender ∨ s.pli.winner ≠ some h.sender →
            exec (.select raw) s = .next s) ∧
          (h.receiver = 0 → h.sender = nodeAddr n → s.pli.winner = some h.sender →
            exec (.select raw) s = .next (s.setPli { s.pli with acking := some n, sending := [.selectAck] }))) ∧
      (s.pli.line = .selecting → s.pli.acking = some n →
        exec .selectionComplete s
          = .next ((s.setPli {
              line := .connected,
              conn := some { kind := .master, partner := n, turn := .partner, bursts := 0,
                             deadline := some (s.now + 50) },
              delivery := s.pli.delivery, claimHold := s.pli.claimHold }).setNode n
                { s.node n with presence := .present })) ∧
      (s.pli.line ≠ .selecting ∨ s.pli.acking = none → exec .selectionComplete s = .next s)

/-- O47. The checks of a received frame in their order, the first that fails giving the error bit: header bytes, header
check, kind range, length, whole form, CRC, kind, addresses (R158). -/
def Obligations.FrameChecksInOrder : Prop :=
  ∀ (n : Node) (raw : RawFrame),
    (raw.length < 6 → checkFrame n raw = .discard .truncated false) ∧
    (6 ≤ raw.length → headerOf raw = none → checkFrame n raw = .discard .hdrBad false) ∧
    ∀ (d : BitVec 40) (corrected : Bool) (rest : List Byte), readHeader raw = .read d corrected rest →
      let h := headerFields d
      let long := 0x40 ≤ h.kind ∧ h.kind < 0x80
      let crcFits := crcBytes (crc16 (headerBytesOf d ++ rest.take h.arg)) = (rest.drop h.arg).take 2
      let whole := (1 ≤ h.kind ∧ h.kind < 0x40) ∨
        (long ∧ 1 ≤ h.arg ∧ h.arg ≤ 512 ∧ h.arg + 2 ≤ rest.length ∧ crcFits)
      (h.kind = 0 ∨ 0x80 ≤ h.kind → checkFrame n raw = .discard .kindUnknown corrected) ∧
      (long → h.arg = 0 ∨ 512 < h.arg → checkFrame n raw = .discard .lengthBad corrected) ∧
      (long → 1 ≤ h.arg → h.arg ≤ 512 → rest.length < h.arg + 2 →
        checkFrame n raw = .discard .truncated corrected) ∧
      (long → 1 ≤ h.arg → h.arg ≤ 512 → h.arg + 2 ≤ rest.length → ¬ crcFits →
        checkFrame n raw = .discard .crcBad corrected) ∧
      (whole → reqOfCode h.kind = none → ctrlOfCode h.kind = none →
        checkFrame n raw = .discard .kindUnknown corrected) ∧
      (whole → reqOfCode h.kind ≠ none ∨ ctrlOfCode h.kind ≠ none → h.sender ≠ nodeAddr n ∨ h.receiver ≠ 0 →
        checkFrame n raw = .discard .addressBad corrected) ∧
      (whole → h.sender = nodeAddr n → h.receiver = 0 →
        (∀ k ∈ ctrlOfCode h.kind, checkFrame n raw = .keep (.ctrl k) corrected) ∧
        (∀ k ∈ reqOfCode h.kind, checkFrame n raw = .keep (.request {
          kind := k, tag := h.tag, arg := h.arg,
          payload := if h.kind < 0x40 then [] else rest.take h.arg }) corrected))

/-- O48. A frame of the partner. In the partner's turn each frame moves the turn deadline to 50 ms ahead; FILL does
nothing more; a request joins the buffer where there is room and no halt, and is SKIPPED after a halt; a frame that
fails a check sets its bit, counts once and halts the burst with burst halt on. Out of the partner's turn no kind is
allowed: a frame that fails an earlier check sets that check's bit, any other OUT_OF_PLACE, and each counts once.
Without a connection nothing is taken notice of (R147, R150, R154, R158, R160, R161). By the model's choice the bytes
decide, whatever command brings them (log 8), a frame out of the partner's turn halts no burst (log 14), and a frame at
the very moment of the turn deadline, its passing not yet taken, is taken (log 28). -/
def Obligations.FramesOfBurst : Prop :=
  ∀ (s : State) (raw : RawFrame) (cmd : Instr),
    s.inReset = false → s.pli.line = .connected →
      cmd ∈ [Instr.requestFrameReceived raw, .frameDiscarded raw, .fill raw, .turn raw, .endFrame raw, .select raw,
             .selectAck raw] →
        (s.pli.conn = none → cmd ≠ .endFrame raw → exec cmd s = .next s) ∧
        ∀ c ∈ s.pli.conn, ∀ corrected : Bool,
          let r := s.node c.partner
          let counted : NodeRec :=
            { r with errCount := min 255 (r.errCount + 1), saturated := r.saturated || decide (255 ≤ r.errCount) }
          let errors : BitVec 16 := if corrected then s.pli.errors ||| 1 else s.pli.errors
          let later : Option Conn := some { c with deadline := some (s.now + 50) }
          let failed (bit : BitVec 16) : State := (s.setNode c.partner counted).setPli { s.pli with
            conn := later, errors := errors ||| bit, halted := s.pli.halted || r.burstHalt }
          (c.kind = .master → c.turn = .partner →
            (checkFrame c.partner raw = .keep (.ctrl .fill) corrected →
              exec cmd s = .next (s.setPli { s.pli with conn := later, errors := errors })) ∧
            (∀ k ∈ [CtrlKind.select, .selectAck, .reply, .report],
              checkFrame c.partner raw = .keep (.ctrl k) corrected → exec cmd s = .next (failed 0x40)) ∧
            (∀ e : ErrBit, checkFrame c.partner raw = .discard e corrected →
              exec cmd s = .next (failed (BitVec.twoPow 16 (errBitNo e)))) ∧
            ∀ f : ReqFrame, checkFrame c.partner raw = .keep (.request f) corrected →
              (4 ≤ s.pli.buffer.length → exec cmd s = .next (failed 0x20)) ∧
              (s.pli.buffer.length < 4 → s.pli.halted = true →
                exec cmd s = .next (s.setPli { s.pli with conn := later, errors := errors ||| 0x200 })) ∧
              (s.pli.buffer.length < 4 → s.pli.halted = false →
                exec cmd s = .next (s.setPli { s.pli with
                  conn := later, errors := errors, buffer := s.pli.buffer ++ [f] }))) ∧
          (c.kind = .reselection ∨ c.turn = .gx →
            let turnedAway (bit : BitVec 16) : State :=
              (s.setNode c.partner counted).setPli { s.pli with errors := errors ||| bit }
            (∀ f : Kept, checkFrame c.partner raw = .keep f corrected → exec cmd s = .next (turnedAway 0x40)) ∧
            (∀ e : ErrBit, checkFrame c.partner raw = .discard e corrected →
              exec cmd s = .next (turnedAway (BitVec.twoPow 16 (errBitNo e)))))

/-- O49. TURN: the requests of the buffer are taken in order, each from the state the one before left; the buffer is
emptied, halted becomes no and the turn is the GX-612's. The reply burst is the slot's reply, one REPLY per request with
its tag, kind, status and body as the taking answered them, REPORT where the error set is not empty, and TURN, or END at
the eighth. Where the header of TURN was corrected, HDR_FIXED stands in that error set (R158). Each payload is its
status, kind and body, the digest section and the filler: the items go from the cursor on, which each REPLY moves by as
many as it carries, and their values read as the state stands after the taking (R151, R152, R164, R171, R175). The
answer of a taking stands in lastReply (log 1); bytes R164 does not name are free (log 12), the BATCH item of a slot in
NONE is log 13, and a TURN at the very moment of the turn deadline is log 28. -/
def Obligations.TurnTakesBurst : Prop :=
  ∀ (s : State) (raw : RawFrame),
    s.inReset = false → s.pli.line = .connected →
      ∀ c ∈ s.pli.conn, c.kind = .master → c.turn = .partner →
        ∀ corrected : Bool, checkFrame c.partner raw = .keep (.ctrl .turn) corrected →
          let errors : BitVec 16 := if corrected then s.pli.errors ||| 1 else s.pli.errors
          let heard : State := s.setPli { s.pli with errors := errors }
          let taken := s.pli.buffer.foldl (fun t f => takeFrame c.partner f t) heard
          let r := taken.node c.partner
          ∃ t, exec (.turn raw) s = .next t ∧
            t.pli.buffer = [] ∧ t.pli.halted = false ∧ t.pli.line = .connected ∧
            t.pli.conn = some { c with turn := .gx, deadline := none } ∧
            t.pli.errors = errors ∧ t.pli.delivery = taken.pli.delivery ∧
            { t with pli := taken.pli, nodes := taken.nodes, freeCount := taken.freeCount } = taken ∧
            (∀ m : Node, m ≠ c.partner → t.node m = taken.node m) ∧
            t.node c.partner = { r with cursor := (t.node c.partner).cursor } ∧
            ∃ answers : List Answer,
              answers.map (·.tag) = s.pli.buffer.map (·.tag) ∧ answers.map (·.kind) = s.pli.buffer.map (·.kind) ∧
              (∀ i < s.pli.buffer.length,
                answers[i]? = ((s.pli.buffer.take (i + 1)).foldl (fun t f => takeFrame c.partner f t) heard).lastReply) ∧
              let held := r.slot.reply?.toList
              let heads := held.map (fun x => replyHead x.status x.kind x.body)
                ++ answers.map (fun a => replyHead a.status a.kind a.body)
              let counts := heads.map (fun h => r.digestTaken h.length)
              (r.digest = [] → (t.node c.partner).cursor = r.cursor) ∧
              (r.cursor < r.digest.length →
                (t.node c.partner).cursor = (r.cursor + counts.sum) % r.digest.length) ∧
              ∃ payloads : List (List Byte),
                payloads.length = heads.length ∧
                t.pli.sending = List.zipWith (fun frame p => frame p)
                    (held.map (fun x => OutFrame.slotReply x.tag) ++ answers.map (fun a => OutFrame.reply a.tag)) payloads
                  ++ (if errors = 0 then [] else [OutFrame.report errors])
                  ++ [if 7 ≤ c.bursts then OutFrame.endFrame else OutFrame.turn] ∧
                ∀ i < heads.length,
                  taken.payloadOk r (heads.getD i []) (r.cursor + (counts.take i).sum) (payloads.getD i [])

/-- O50. END frees the line, between other nodes too (log 10). A slot reply sent whole empties the slot and takes the
partner off the delivery list. A REPORT sent whole empties the error set. A reply burst's TURN hands the turn back with
one burst more and 50 ms, and its END ends the connection (R147, R150, R152, R153, R154). By the model's choice a
sent-whole command changes nothing with nothing being sent, and acts past the ordinary replies that stand before its
frame (log 15). -/
def Obligations.EndAndSentEvents : Prop :=
  ∀ (s : State) (raw : RawFrame),
    s.inReset = false →
      let freed : State := s.setPli { line := .free, delivery := s.pli.delivery, claimHold := s.pli.claimHold }
      (s.pli.conn = none → s.pli.acking = none → s.pli.line = .connected ∨ s.pli.line = .selecting →
        ∀ h ∈ headerOf raw, h.kind = 0x04 → exec (.endFrame raw) s = .next freed) ∧
      (s.pli.sending = [] →
        exec .slotReplyDelivered s = .next s ∧ exec .reportSent s = .next s ∧ exec .replyBurstEndSent s = .next s) ∧
      (∀ replies : List OutFrame, (∀ f ∈ replies, ∃ tag p, f = .reply tag p) →
        (∀ bits rest, s.pli.sending = replies ++ .report bits :: rest →
          exec .reportSent s = .next (s.setPli { s.pli with errors := 0, sending := rest })) ∧
        (s.pli.line = .connected → ∀ c ∈ s.pli.conn,
          (∀ corrected : Bool, c.kind = .master → c.turn = .partner →
            checkFrame c.partner raw = .keep (.ctrl .endFrame) corrected → exec (.endFrame raw) s = .next freed) ∧
          (∀ tag p rest, s.pli.sending = .slotReply tag p :: rest →
            exec .slotReplyDelivered s
              = .next ((s.setNode c.partner { s.node c.partner with slot := .empty }).setPli { s.pli with
                  delivery := s.pli.delivery.filter (fun m => decide (m ≠ c.partner)), sending := rest })) ∧
          (c.kind = .master → s.pli.sending = replies ++ [.turn] →
            exec .replyBurstEndSent s = .next (s.setPli { s.pli with
              conn := some { c with turn := .partner, bursts := c.bursts + 1, deadline := some (s.now + 50) },
              sending := [] })) ∧
          (s.pli.sending = replies ++ [.endFrame] → exec .replyBurstEndSent s = .next freed)))

/-- O51. RESELECTION selects the head of the delivery list for up to 5 ms. A SELECT_ACK of that node makes it PRESENT
and the line CONNECTED, and its slot's reply and END are sent, the reply with its digest section from the cursor on and
its filler; another is no answer. Between other nodes a SELECT_ACK brings the line to CONNECTED (R147; log 10), and one
that comes while the PLI's own SELECT_ACK goes out changes nothing (log 20). After 5 ms the slot is HELD, the node
UNREACHABLE and off the list, NODE_UNREACHABLE is counted, END is sent and the line is FREE (R154, R155, R164, R168,
R171, R175). That a frame the checks discard is counted for no node while the PLI waits is log 29, and that an answer at
the very moment of the 5 ms is taken log 28. By the model's choice the line is FREE while that END is still in sending
(log 16), a command that comes where it has no subject or before its deadline changes nothing but the clock (logs 2,
20), and claimHold is a field (log 23); bytes R164 does not name are free (log 12), and the BATCH item of a slot in NONE
is log 13. -/
def Obligations.ReselectionDelivers : Prop :=
  ∀ (s : State) (raw : RawFrame) (arrival : Nat),
    s.inReset = false →
      (s.pli.line = .selecting → s.pli.winner = some 0 → s.pli.conn = none → s.pli.acking = none →
        ∀ n ∈ s.pli.delivery.head?,
          exec .reselection s = .next (s.setPli { s.pli with
            conn := some { kind := .reselection, partner := n, turn := .gx, bursts := 0, deadline := none },
            selectDeadline := some (s.now + 5), sending := [.select] })) ∧
      (s.pli.line ≠ .selecting ∨ s.pli.winner ≠ some 0 ∨ s.pli.delivery = [] → exec .reselection s = .next s) ∧
      (s.pli.line = .selecting → s.pli.conn = none →
        (headerOf raw = none ∨ s.pli.acking ≠ none → exec (.selectAck raw) s = .next s) ∧
        (s.pli.acking = none → ∀ h ∈ headerOf raw,
          (h.kind ≠ 0x02 → exec (.selectAck raw) s = .next s) ∧
          (h.kind = 0x02 → exec (.selectAck raw) s = .next (s.setPli {
            line := .connected, delivery := s.pli.delivery, claimHold := s.pli.claimHold })))) ∧
      (s.pli.line = .selecting → ∀ c ∈ s.pli.conn,
        (headerOf raw = none → exec (.selectAck raw) s = .next s) ∧
        (∀ h ∈ headerOf raw,
          (h.kind ≠ 0x02 ∨ h.sender ≠ nodeAddr c.partner ∨ h.receiver ≠ 0 → exec (.selectAck raw) s = .next s) ∧
          (h.kind = 0x02 → h.sender = nodeAddr c.partner → h.receiver = 0 →
            let r : NodeRec := { s.node c.partner with presence := .present }
            ∀ x ∈ r.slot.reply?, ∃ t p,
              exec (.selectAck raw) s = .next t ∧
              (s.setNode c.partner r).payloadOk r (replyHead x.status x.kind x.body) r.cursor p ∧
              t.pli = { line := .connected, conn := some c, delivery := s.pli.delivery, claimHold := s.pli.claimHold,
                        sending := [.slotReply x.tag p, .endFrame] } ∧
              (∀ m : Node, m ≠ c.partner → t.node m = s.node m) ∧
              t.node c.partner = { r with cursor := (t.node c.partner).cursor } ∧
              (r.digest = [] → (t.node c.partner).cursor = r.cursor) ∧
              (r.cursor < r.digest.length → (t.node c.partner).cursor
                = (r.cursor + r.digestTaken (replyHead x.status x.kind x.body).length) % r.digest.length) ∧
              { t with pli := s.pli, nodes := s.nodes, freeCount := s.freeCount } = s)) ∧
        ∀ d ∈ s.pli.selectDeadline,
          (max s.now arrival < d → exec (.reselectionTimeout arrival) s = .next (s.advance arrival)) ∧
          (d ≤ max s.now arrival → ∀ x : SlotReply, (s.node c.partner).slot = .deliverable x →
            exec (.reselectionTimeout arrival) s
              = .next ((((s.advance arrival).setNode c.partner { s.node c.partner with
                  slot := .held x, presence := .unreachable }).setPli {
                    line := .free, claimHold := s.pli.claimHold, sending := [.endFrame],
                    delivery := s.pli.delivery.filter (fun m => decide (m ≠ c.partner)) }).alarm .nodeUnreachable
                      (some (nodeAddr c.partner)))))

/-- O52. A turn deadline that passes in the partner's turn counts one error and ends the connection with END. A line
reset abandons connection, buffer and error set, counts a frame that was arriving, and makes a HELD reply that it cuts
short DELIVERABLE at the tail of the list; its release frees the line and counts LINE_RESET. A line that is idle out of
FREE, in a connection of the PLI or not, is reset like that with the claim pair held 2 ms (R153, R156, R157). By the
model's choice that END stays in sending on a FREE line (log 16), the operand says whether a frame was arriving and on
an idle line none is (log 18), a release of a line that is not RESETTING and a deadline ahead do nothing (logs 2, 20),
the hold of the claim pair is the field claimHold (log 23), and a release ends that hold (log 27). -/
def Obligations.LineAbandoned : Prop :=
  ∀ (s : State) (arrival : Nat) (receiving : Bool),
    s.inReset = false →
      let left (st : LineState) : Pli := { line := st, delivery := s.pli.delivery, claimHold := s.pli.claimHold }
      (s.pli.line = .resetting →
        exec (.lineReset receiving) s = .next s ∧
        exec .lineResetRelease s
          = .next ((s.setPli { line := .free, delivery := s.pli.delivery }).alarm .lineReset none) ∧
        exec (.turnTimeout arrival) s = .next (s.advance arrival) ∧
        exec (.lineIdleTimeout arrival) s
          = .next ((s.advance arrival).setPli { s.pli with claimHold := some (max s.now arrival + 2) })) ∧
      (s.pli.line ≠ .resetting → exec .lineResetRelease s = .next s) ∧
      (s.pli.line = .free → exec (.lineIdleTimeout arrival) s = .next (s.advance arrival)) ∧
      (s.pli.line ≠ .resetting → s.pli.conn = none ∨ s.pli.line ≠ .connected →
        exec (.lineReset receiving) s = .next (s.setPli (left .resetting)) ∧
        exec (.turnTimeout arrival) s = .next (s.advance arrival) ∧
        (s.pli.line ≠ .free → exec (.lineIdleTimeout arrival) s
          = .next ((s.advance arrival).setPli { left .resetting with claimHold := some (max s.now arrival + 2) }))) ∧
      (s.pli.line = .connected → ∀ c ∈ s.pli.conn,
        let r := s.node c.partner
        let counted : NodeRec :=
          { r with errCount := min 255 (r.errCount + 1), saturated := r.saturated || decide (255 ≤ r.errCount) }
        let cut : NodeRec := if receiving then counted else r
        let heldDown : Pli := { left .resetting with claimHold := some (max s.now arrival + 2) }
        (c.turn = .gx → exec (.turnTimeout arrival) s = .next (s.advance arrival)) ∧
        (c.kind = .master → c.turn = .partner → ∀ d ∈ c.deadline,
          (max s.now arrival < d → exec (.turnTimeout arrival) s = .next (s.advance arrival)) ∧
          (d ≤ max s.now arrival → exec (.turnTimeout arrival) s
            = .next (((s.advance arrival).setNode c.partner counted).setPli { left .free with
                sending := [.endFrame] }))) ∧
        ((∀ x, r.slot ≠ .held x) ∨ c.kind = .reselection ∨ s.pli.sending.any OutFrame.isSlotReply = false →
          exec (.lineReset receiving) s = .next ((s.setNode c.partner cut).setPli (left .resetting)) ∧
          exec (.lineIdleTimeout arrival) s = .next ((s.advance arrival).setPli heldDown)) ∧
        (∀ x, r.slot = .held x → c.kind = .master → s.pli.sending.any OutFrame.isSlotReply = true →
          exec (.lineReset receiving) s
            = .next ((s.setNode c.partner { cut with slot := .deliverable x }).setPli { left .resetting with
                delivery := s.pli.delivery ++ [c.partner] }) ∧
          exec (.lineIdleTimeout arrival) s
            = .next (((s.advance arrival).setNode c.partner { r with slot := .deliverable x }).setPli { heldDown with
                delivery := s.pli.delivery ++ [c.partner] })))

/-! ## Power-on and reset -/

/-- O53. The reset input: its assertion closes every valve, cuts a store write short and abandons the connection, and
leaves the rest; its release is a power-on. At a power-on every block takes its power-on value, each bay comes back from
its store record, and the Alarm Set holds POWER_ON once, STORE_LOST for each bad record, and ESTOP_ON where the input
reads ASSERTED (R40, R136, R146, R176). By the model's choice the clock, the queue and the switch levels stand over a
power-on and an asserted reset stays asserted (logs 2, 21); a record's check is held as good or bad (log 6). -/
def Obligations.ResetCommands : Prop :=
  ∀ (s : State),
    let good (b : BayIx) : Bool := s.store.recs[b].good && !s.store.op.writes b
    let started (t : State) : Prop :=
      t.units = [] ∧ t.waits = [] ∧ t.pli = { } ∧ t.params = { } ∧ t.batches = BatchTable.initial ∧
      (∀ n : Node, t.node n = { }) ∧ t.switches = s.switches ∧ t.now = s.now ∧ t.pending = s.pending ∧
      t.interlock = { s.interlock with flag := false } ∧ t.store.op = .idle ∧
      (∀ b : BayIx, t.feed b = none ∧ t.valve b = false ∧ t.channel b = Channel.initial ∧
        t.store.recs[b] = { contents := s.store.recs[b].contents, good := good b } ∧
        (good b = false ∨ s.store.recs[b].contents = .cleared → t.bay b = Bay.initial) ∧
        (∀ z sc, good b = true → s.store.recs[b].contents = .calibration z sc →
          t.bay b = { Bay.initial with zero := z, scale := sc }) ∧
        (∀ v z sc, good b = true → s.store.recs[b].contents = .definition v z sc →
          t.bay b = { Bay.initial with state := .hold, vessel := some v, zero := z, scale := sc })) ∧
      ∀ k : AlarmKind, (t.alarms.recs[alarmIx k]).count
        = if k = .powerOn then 1
          else if k = .storeLost then (allBays.filter (fun b => !good b)).length
          else if k = .estopOn ∧ s.interlock.estop = true then 1 else 0
    (∃ t, exec .powerOn s = .next t ∧ started t ∧ t.inReset = s.inReset) ∧
    (s.inReset = true →
      exec .resetAssert s = .next s ∧ ∃ t, exec .resetRelease s = .next t ∧ started t ∧ t.inReset = false) ∧
    (s.inReset = false →
      exec .resetRelease s = .next s ∧
      ∃ t, exec .resetAssert s = .next t ∧ t.inReset = true ∧ (∀ b : BayIx, t.valve b = false) ∧
        t.store.op = .idle ∧
        (∀ b : BayIx, t.store.recs[b] = { contents := s.store.recs[b].contents, good := good b }) ∧
        t.pli = { line := s.pli.line, delivery := s.pli.delivery } ∧
        { t with inReset := false, valves := s.valves, store := s.store, pli := s.pli } = s)

/-! ## Headlines -/

/-- O54. The header check corrects every single flipped bit of a header and detects every two: a header as sent is
correct, a header with any one of its 48 bits flipped is corrected to the data sent, and one with any two flipped is
HDR_BAD (R159). -/
def Obligations.HeaderCodeCorrects : Prop :=
  ∀ (d : BitVec 40) (i j : Fin 48),
    let sent : BitVec 48 := d ++ headerCheck d
    let received (w : BitVec 48) : HeaderResult := decodeHeader (w.extractLsb' 8 40) (w.extractLsb' 0 8)
    received sent = .correct d ∧
      received (sent ^^^ BitVec.twoPow 48 i.val) = .corrected d ∧
      (i ≠ j → received (sent ^^^ BitVec.twoPow 48 i.val ^^^ BitVec.twoPow 48 j.val) = .bad)

/-- O55. Decode and encode agree: the bytes a master sends for any well-formed request pass the checks of a received
frame with no error bit, the frame they leave stands for that request and no other, and taking the frame is the command
(R151, R158, R160, R162, R163). -/
def Obligations.RequestFramesRoundTrip : Prop :=
  ∀ (c : Instr), c.wf = true → ∀ p ∈ frameOf c,
    checkFrame p.1 (p.2.bytes p.1) = .keep (.request p.2) false ∧
      requestOf p.1 p.2 = some c ∧
      ∀ s : State, s.inReset = false → exec c s = .next (takeFrame p.1 p.2 s)

/-- O56. Every step keeps the unit records sound and the batches adding up: tags unique and at most 96, figures in
range, one unit a station; the shares and the unassigned mass of a completed batch are its total gain (R1, R2, R5, R109,
R115, R133). -/
def Obligations.UnitsAndBatchesStaySound : Prop :=
  ∀ (s t : State), step s = .next t → (UnitsOk s → UnitsOk t) ∧ (BatchesOk s → BatchesOk t)

/-- O57. Every step keeps the registers in their ranges: settings and counters, channels, windows, nets and books, and
the Plant Line Interface's connection and buffer (R22, R44, R133, R147, R152, R166, R176, R178). -/
def Obligations.RegistersStayInRange : Prop :=
  ∀ (s t : State), step s = .next t →
    (SettingsOk s → SettingsOk t) ∧ (WeighOk s → WeighOk t) ∧ (LineOk s → LineOk t)

/-- O58. Every step keeps the pending slots, the Wait List and the delivery list in agreement: a waiting node's slot is
DEFERRED for the request that waits, no node waits twice, and the delivery list holds the DELIVERABLE nodes, each once;
at most one slot reply is being sent, and it stands in its node's slot (R86, R89, R152, R153, R169). -/
def Obligations.SlotsStaySound : Prop :=
  ∀ (s t : State), SlotsOk s → step s = .next t → SlotsOk t

/-- O59. Every step keeps feeds, bays, valves, owners and interlocks in agreement: a valve is open exactly while its bay
feeds, a node owns one feed at most, and no flammable gas is fed with the permit off and none at all with the E-stop
asserted (R25, R28, R30, R63, R64, R96, R138, R142). -/
def Obligations.FeedsStaySound : Prop :=
  ∀ (s t : State), SlotsOk s → FeedsOk s → step s = .next t → FeedsOk t

/-- O60. Every step keeps the batches in phase with the feeds: a batch is OPEN exactly while its line feeds for it, and
WAITING_FEED exactly while its line waits (R118). -/
def Obligations.BatchesStayInPhase : Prop :=
  ∀ (s t : State), SlotsOk s → FeedsOk s → PhaseOk s → step s = .next t → PhaseOk t
end

