-- ==== Sys2Proof/Laws/State.lean ====
section
/-! SUPPORT. One lemma per field per update of the state, so that no proof unfolds a record update. -/

namespace Sys2Proof.Machine

variable (s : State)

/-! ## setBay -/

@[simp] theorem State.setBay_now (b : BayIx) (r : Bay) : (s.setBay b r).now = s.now := rfl
@[simp] theorem State.setBay_pending (b : BayIx) (r : Bay) : (s.setBay b r).pending = s.pending := rfl
@[simp] theorem State.setBay_inReset (b : BayIx) (r : Bay) : (s.setBay b r).inReset = s.inReset := rfl
@[simp] theorem State.setBay_switches (b : BayIx) (r : Bay) : (s.setBay b r).switches = s.switches := rfl
@[simp] theorem State.setBay_pli (b : BayIx) (r : Bay) : (s.setBay b r).pli = s.pli := rfl
@[simp] theorem State.setBay_nodes (b : BayIx) (r : Bay) : (s.setBay b r).nodes = s.nodes := rfl
@[simp] theorem State.setBay_units (b : BayIx) (r : Bay) : (s.setBay b r).units = s.units := rfl
@[simp] theorem State.setBay_store (b : BayIx) (r : Bay) : (s.setBay b r).store = s.store := rfl
@[simp] theorem State.setBay_channels (b : BayIx) (r : Bay) : (s.setBay b r).channels = s.channels := rfl
@[simp] theorem State.setBay_feeds (b : BayIx) (r : Bay) : (s.setBay b r).feeds = s.feeds := rfl
@[simp] theorem State.setBay_valves (b : BayIx) (r : Bay) : (s.setBay b r).valves = s.valves := rfl
@[simp] theorem State.setBay_waits (b : BayIx) (r : Bay) : (s.setBay b r).waits = s.waits := rfl
@[simp] theorem State.setBay_batches (b : BayIx) (r : Bay) : (s.setBay b r).batches = s.batches := rfl
@[simp] theorem State.setBay_interlock (b : BayIx) (r : Bay) : (s.setBay b r).interlock = s.interlock := rfl
@[simp] theorem State.setBay_alarms (b : BayIx) (r : Bay) : (s.setBay b r).alarms = s.alarms := rfl
@[simp] theorem State.setBay_params (b : BayIx) (r : Bay) : (s.setBay b r).params = s.params := rfl
@[simp] theorem State.setBay_lastReply (b : BayIx) (r : Bay) : (s.setBay b r).lastReply = s.lastReply := rfl
@[simp] theorem State.setBay_freeCount (b : BayIx) (r : Bay) : (s.setBay b r).freeCount = s.freeCount := rfl
@[simp] theorem State.setBay_bay (b : BayIx) (r : Bay) : (s.setBay b r).bay b = r := by
  simp [State.setBay, State.bay]
theorem State.setBay_bay_ne (b : BayIx) (r : Bay) (c : BayIx) (h : c ≠ b) : (s.setBay b r).bay c = s.bay c := by
  have : b.val ≠ c.val := fun e => h (Fin.ext e.symm)
  simp [State.setBay, State.bay, Vector.getElem_set_ne, this]
@[simp] theorem State.setBay_channel (b : BayIx) (r : Bay) (c : BayIx) : (s.setBay b r).channel c = s.channel c := rfl
@[simp] theorem State.setBay_feed (b : BayIx) (r : Bay) (c : BayIx) : (s.setBay b r).feed c = s.feed c := rfl
@[simp] theorem State.setBay_valve (b : BayIx) (r : Bay) (c : BayIx) : (s.setBay b r).valve c = s.valve c := rfl
@[simp] theorem State.setBay_switch (b : BayIx) (r : Bay) (c : BayIx) : (s.setBay b r).switch c = s.switch c := rfl
@[simp] theorem State.setBay_node (b : BayIx) (r : Bay) (c : Node) : (s.setBay b r).node c = s.node c := rfl
@[simp] theorem State.setBay_line (b : BayIx) (r : Bay) (c : FoamLine) : (s.setBay b r).line c = s.line c := rfl
@[simp] theorem State.setBay_permitOn (b : BayIx) (r : Bay) : (s.setBay b r).permitOn = s.permitOn := rfl
@[simp] theorem State.setBay_entry (b : BayIx) (r : Bay) (m : Node) : (s.setBay b r).entry m = s.entry m := rfl
@[simp] theorem State.setBay_unitOpt (b : BayIx) (r : Bay) (u : Nat) : (s.setBay b r).unit? u = s.unit? u := rfl
@[simp] theorem State.setBay_boundUnit (b : BayIx) (r : Bay) (m : Node) : (s.setBay b r).boundUnit m = s.boundUnit m := rfl
@[simp] theorem State.setBay_ownedBay (b : BayIx) (r : Bay) (m : Node) : (s.setBay b r).ownedBay m = s.ownedBay m := rfl
@[simp] theorem State.setBay_passed (b : BayIx) (r : Bay) (d : Option Nat) : (s.setBay b r).passed d = s.passed d := rfl

/-! ## setChannel -/

@[simp] theorem State.setChannel_now (b : BayIx) (r : Channel) : (s.setChannel b r).now = s.now := rfl
@[simp] theorem State.setChannel_pending (b : BayIx) (r : Channel) : (s.setChannel b r).pending = s.pending := rfl
@[simp] theorem State.setChannel_inReset (b : BayIx) (r : Channel) : (s.setChannel b r).inReset = s.inReset := rfl
@[simp] theorem State.setChannel_switches (b : BayIx) (r : Channel) : (s.setChannel b r).switches = s.switches := rfl
@[simp] theorem State.setChannel_pli (b : BayIx) (r : Channel) : (s.setChannel b r).pli = s.pli := rfl
@[simp] theorem State.setChannel_nodes (b : BayIx) (r : Channel) : (s.setChannel b r).nodes = s.nodes := rfl
@[simp] theorem State.setChannel_units (b : BayIx) (r : Channel) : (s.setChannel b r).units = s.units := rfl
@[simp] theorem State.setChannel_bays (b : BayIx) (r : Channel) : (s.setChannel b r).bays = s.bays := rfl
@[simp] theorem State.setChannel_store (b : BayIx) (r : Channel) : (s.setChannel b r).store = s.store := rfl
@[simp] theorem State.setChannel_feeds (b : BayIx) (r : Channel) : (s.setChannel b r).feeds = s.feeds := rfl
@[simp] theorem State.setChannel_valves (b : BayIx) (r : Channel) : (s.setChannel b r).valves = s.valves := rfl
@[simp] theorem State.setChannel_waits (b : BayIx) (r : Channel) : (s.setChannel b r).waits = s.waits := rfl
@[simp] theorem State.setChannel_batches (b : BayIx) (r : Channel) : (s.setChannel b r).batches = s.batches := rfl
@[simp] theorem State.setChannel_interlock (b : BayIx) (r : Channel) : (s.setChannel b r).interlock = s.interlock := rfl
@[simp] theorem State.setChannel_alarms (b : BayIx) (r : Channel) : (s.setChannel b r).alarms = s.alarms := rfl
@[simp] theorem State.setChannel_params (b : BayIx) (r : Channel) : (s.setChannel b r).params = s.params := rfl
@[simp] theorem State.setChannel_lastReply (b : BayIx) (r : Channel) : (s.setChannel b r).lastReply = s.lastReply := rfl
@[simp] theorem State.setChannel_freeCount (b : BayIx) (r : Channel) : (s.setChannel b r).freeCount = s.freeCount := rfl
@[simp] theorem State.setChannel_bay (b : BayIx) (r : Channel) (c : BayIx) : (s.setChannel b r).bay c = s.bay c := rfl
@[simp] theorem State.setChannel_channel (b : BayIx) (r : Channel) : (s.setChannel b r).channel b = r := by
  simp [State.setChannel, State.channel]
theorem State.setChannel_channel_ne (b : BayIx) (r : Channel) (c : BayIx) (h : c ≠ b) : (s.setChannel b r).channel c = s.channel c := by
  have : b.val ≠ c.val := fun e => h (Fin.ext e.symm)
  simp [State.setChannel, State.channel, Vector.getElem_set_ne, this]
@[simp] theorem State.setChannel_feed (b : BayIx) (r : Channel) (c : BayIx) : (s.setChannel b r).feed c = s.feed c := rfl
@[simp] theorem State.setChannel_valve (b : BayIx) (r : Channel) (c : BayIx) : (s.setChannel b r).valve c = s.valve c := rfl
@[simp] theorem State.setChannel_switch (b : BayIx) (r : Channel) (c : BayIx) : (s.setChannel b r).switch c = s.switch c := rfl
@[simp] theorem State.setChannel_node (b : BayIx) (r : Channel) (c : Node) : (s.setChannel b r).node c = s.node c := rfl
@[simp] theorem State.setChannel_line (b : BayIx) (r : Channel) (c : FoamLine) : (s.setChannel b r).line c = s.line c := rfl
@[simp] theorem State.setChannel_permitOn (b : BayIx) (r : Channel) : (s.setChannel b r).permitOn = s.permitOn := rfl
@[simp] theorem State.setChannel_entry (b : BayIx) (r : Channel) (m : Node) : (s.setChannel b r).entry m = s.entry m := rfl
@[simp] theorem State.setChannel_unitOpt (b : BayIx) (r : Channel) (u : Nat) : (s.setChannel b r).unit? u = s.unit? u := rfl
@[simp] theorem State.setChannel_boundUnit (b : BayIx) (r : Channel) (m : Node) : (s.setChannel b r).boundUnit m = s.boundUnit m := rfl
@[simp] theorem State.setChannel_ownedBay (b : BayIx) (r : Channel) (m : Node) : (s.setChannel b r).ownedBay m = s.ownedBay m := rfl
@[simp] theorem State.setChannel_passed (b : BayIx) (r : Channel) (d : Option Nat) : (s.setChannel b r).passed d = s.passed d := rfl

/-! ## setFeed -/

@[simp] theorem State.setFeed_now (b : BayIx) (r : Option Feed) : (s.setFeed b r).now = s.now := rfl
@[simp] theorem State.setFeed_pending (b : BayIx) (r : Option Feed) : (s.setFeed b r).pending = s.pending := rfl
@[simp] theorem State.setFeed_inReset (b : BayIx) (r : Option Feed) : (s.setFeed b r).inReset = s.inReset := rfl
@[simp] theorem State.setFeed_switches (b : BayIx) (r : Option Feed) : (s.setFeed b r).switches = s.switches := rfl
@[simp] theorem State.setFeed_pli (b : BayIx) (r : Option Feed) : (s.setFeed b r).pli = s.pli := rfl
@[simp] theorem State.setFeed_nodes (b : BayIx) (r : Option Feed) : (s.setFeed b r).nodes = s.nodes := rfl
@[simp] theorem State.setFeed_units (b : BayIx) (r : Option Feed) : (s.setFeed b r).units = s.units := rfl
@[simp] theorem State.setFeed_bays (b : BayIx) (r : Option Feed) : (s.setFeed b r).bays = s.bays := rfl
@[simp] theorem State.setFeed_store (b : BayIx) (r : Option Feed) : (s.setFeed b r).store = s.store := rfl
@[simp] theorem State.setFeed_channels (b : BayIx) (r : Option Feed) : (s.setFeed b r).channels = s.channels := rfl
@[simp] theorem State.setFeed_valves (b : BayIx) (r : Option Feed) : (s.setFeed b r).valves = s.valves := rfl
@[simp] theorem State.setFeed_waits (b : BayIx) (r : Option Feed) : (s.setFeed b r).waits = s.waits := rfl
@[simp] theorem State.setFeed_batches (b : BayIx) (r : Option Feed) : (s.setFeed b r).batches = s.batches := rfl
@[simp] theorem State.setFeed_interlock (b : BayIx) (r : Option Feed) : (s.setFeed b r).interlock = s.interlock := rfl
@[simp] theorem State.setFeed_alarms (b : BayIx) (r : Option Feed) : (s.setFeed b r).alarms = s.alarms := rfl
@[simp] theorem State.setFeed_params (b : BayIx) (r : Option Feed) : (s.setFeed b r).params = s.params := rfl
@[simp] theorem State.setFeed_lastReply (b : BayIx) (r : Option Feed) : (s.setFeed b r).lastReply = s.lastReply := rfl
@[simp] theorem State.setFeed_freeCount (b : BayIx) (r : Option Feed) : (s.setFeed b r).freeCount = s.freeCount := rfl
@[simp] theorem State.setFeed_bay (b : BayIx) (r : Option Feed) (c : BayIx) : (s.setFeed b r).bay c = s.bay c := rfl
@[simp] theorem State.setFeed_channel (b : BayIx) (r : Option Feed) (c : BayIx) : (s.setFeed b r).channel c = s.channel c := rfl
@[simp] theorem State.setFeed_feed (b : BayIx) (r : Option Feed) : (s.setFeed b r).feed b = r := by
  simp [State.setFeed, State.feed]
theorem State.setFeed_feed_ne (b : BayIx) (r : Option Feed) (c : BayIx) (h : c ≠ b) : (s.setFeed b r).feed c = s.feed c := by
  have : b.val ≠ c.val := fun e => h (Fin.ext e.symm)
  simp [State.setFeed, State.feed, Vector.getElem_set_ne, this]
@[simp] theorem State.setFeed_valve (b : BayIx) (r : Option Feed) (c : BayIx) : (s.setFeed b r).valve c = s.valve c := rfl
@[simp] theorem State.setFeed_switch (b : BayIx) (r : Option Feed) (c : BayIx) : (s.setFeed b r).switch c = s.switch c := rfl
@[simp] theorem State.setFeed_node (b : BayIx) (r : Option Feed) (c : Node) : (s.setFeed b r).node c = s.node c := rfl
@[simp] theorem State.setFeed_line (b : BayIx) (r : Option Feed) (c : FoamLine) : (s.setFeed b r).line c = s.line c := rfl
@[simp] theorem State.setFeed_permitOn (b : BayIx) (r : Option Feed) : (s.setFeed b r).permitOn = s.permitOn := rfl
@[simp] theorem State.setFeed_entry (b : BayIx) (r : Option Feed) (m : Node) : (s.setFeed b r).entry m = s.entry m := rfl
@[simp] theorem State.setFeed_unitOpt (b : BayIx) (r : Option Feed) (u : Nat) : (s.setFeed b r).unit? u = s.unit? u := rfl
@[simp] theorem State.setFeed_boundUnit (b : BayIx) (r : Option Feed) (m : Node) : (s.setFeed b r).boundUnit m = s.boundUnit m := rfl
@[simp] theorem State.setFeed_passed (b : BayIx) (r : Option Feed) (d : Option Nat) : (s.setFeed b r).passed d = s.passed d := rfl

/-! ## setValve -/

@[simp] theorem State.setValve_now (b : BayIx) (r : Bool) : (s.setValve b r).now = s.now := rfl
@[simp] theorem State.setValve_pending (b : BayIx) (r : Bool) : (s.setValve b r).pending = s.pending := rfl
@[simp] theorem State.setValve_inReset (b : BayIx) (r : Bool) : (s.setValve b r).inReset = s.inReset := rfl
@[simp] theorem State.setValve_switches (b : BayIx) (r : Bool) : (s.setValve b r).switches = s.switches := rfl
@[simp] theorem State.setValve_pli (b : BayIx) (r : Bool) : (s.setValve b r).pli = s.pli := rfl
@[simp] theorem State.setValve_nodes (b : BayIx) (r : Bool) : (s.setValve b r).nodes = s.nodes := rfl
@[simp] theorem State.setValve_units (b : BayIx) (r : Bool) : (s.setValve b r).units = s.units := rfl
@[simp] theorem State.setValve_bays (b : BayIx) (r : Bool) : (s.setValve b r).bays = s.bays := rfl
@[simp] theorem State.setValve_store (b : BayIx) (r : Bool) : (s.setValve b r).store = s.store := rfl
@[simp] theorem State.setValve_channels (b : BayIx) (r : Bool) : (s.setValve b r).channels = s.channels := rfl
@[simp] theorem State.setValve_feeds (b : BayIx) (r : Bool) : (s.setValve b r).feeds = s.feeds := rfl
@[simp] theorem State.setValve_waits (b : BayIx) (r : Bool) : (s.setValve b r).waits = s.waits := rfl
@[simp] theorem State.setValve_batches (b : BayIx) (r : Bool) : (s.setValve b r).batches = s.batches := rfl
@[simp] theorem State.setValve_interlock (b : BayIx) (r : Bool) : (s.setValve b r).interlock = s.interlock := rfl
@[simp] theorem State.setValve_alarms (b : BayIx) (r : Bool) : (s.setValve b r).alarms = s.alarms := rfl
@[simp] theorem State.setValve_params (b : BayIx) (r : Bool) : (s.setValve b r).params = s.params := rfl
@[simp] theorem State.setValve_lastReply (b : BayIx) (r : Bool) : (s.setValve b r).lastReply = s.lastReply := rfl
@[simp] theorem State.setValve_freeCount (b : BayIx) (r : Bool) : (s.setValve b r).freeCount = s.freeCount := rfl
@[simp] theorem State.setValve_bay (b : BayIx) (r : Bool) (c : BayIx) : (s.setValve b r).bay c = s.bay c := rfl
@[simp] theorem State.setValve_channel (b : BayIx) (r : Bool) (c : BayIx) : (s.setValve b r).channel c = s.channel c := rfl
@[simp] theorem State.setValve_feed (b : BayIx) (r : Bool) (c : BayIx) : (s.setValve b r).feed c = s.feed c := rfl
@[simp] theorem State.setValve_valve (b : BayIx) (r : Bool) : (s.setValve b r).valve b = r := by
  simp [State.setValve, State.valve]
theorem State.setValve_valve_ne (b : BayIx) (r : Bool) (c : BayIx) (h : c ≠ b) : (s.setValve b r).valve c = s.valve c := by
  have : b.val ≠ c.val := fun e => h (Fin.ext e.symm)
  simp [State.setValve, State.valve, Vector.getElem_set_ne, this]
@[simp] theorem State.setValve_switch (b : BayIx) (r : Bool) (c : BayIx) : (s.setValve b r).switch c = s.switch c := rfl
@[simp] theorem State.setValve_node (b : BayIx) (r : Bool) (c : Node) : (s.setValve b r).node c = s.node c := rfl
@[simp] theorem State.setValve_line (b : BayIx) (r : Bool) (c : FoamLine) : (s.setValve b r).line c = s.line c := rfl
@[simp] theorem State.setValve_permitOn (b : BayIx) (r : Bool) : (s.setValve b r).permitOn = s.permitOn := rfl
@[simp] theorem State.setValve_entry (b : BayIx) (r : Bool) (m : Node) : (s.setValve b r).entry m = s.entry m := rfl
@[simp] theorem State.setValve_unitOpt (b : BayIx) (r : Bool) (u : Nat) : (s.setValve b r).unit? u = s.unit? u := rfl
@[simp] theorem State.setValve_boundUnit (b : BayIx) (r : Bool) (m : Node) : (s.setValve b r).boundUnit m = s.boundUnit m := rfl
@[simp] theorem State.setValve_ownedBay (b : BayIx) (r : Bool) (m : Node) : (s.setValve b r).ownedBay m = s.ownedBay m := rfl
@[simp] theorem State.setValve_passed (b : BayIx) (r : Bool) (d : Option Nat) : (s.setValve b r).passed d = s.passed d := rfl

/-! ## setSwitch -/

@[simp] theorem State.setSwitch_now (b : BayIx) (r : Bool) : (s.setSwitch b r).now = s.now := rfl
@[simp] theorem State.setSwitch_pending (b : BayIx) (r : Bool) : (s.setSwitch b r).pending = s.pending := rfl
@[simp] theorem State.setSwitch_inReset (b : BayIx) (r : Bool) : (s.setSwitch b r).inReset = s.inReset := rfl
@[simp] theorem State.setSwitch_pli (b : BayIx) (r : Bool) : (s.setSwitch b r).pli = s.pli := rfl
@[simp] theorem State.setSwitch_nodes (b : BayIx) (r : Bool) : (s.setSwitch b r).nodes = s.nodes := rfl
@[simp] theorem State.setSwitch_units (b : BayIx) (r : Bool) : (s.setSwitch b r).units = s.units := rfl
@[simp] theorem State.setSwitch_bays (b : BayIx) (r : Bool) : (s.setSwitch b r).bays = s.bays := rfl
@[simp] theorem State.setSwitch_store (b : BayIx) (r : Bool) : (s.setSwitch b r).store = s.store := rfl
@[simp] theorem State.setSwitch_channels (b : BayIx) (r : Bool) : (s.setSwitch b r).channels = s.channels := rfl
@[simp] theorem State.setSwitch_feeds (b : BayIx) (r : Bool) : (s.setSwitch b r).feeds = s.feeds := rfl
@[simp] theorem State.setSwitch_valves (b : BayIx) (r : Bool) : (s.setSwitch b r).valves = s.valves := rfl
@[simp] theorem State.setSwitch_waits (b : BayIx) (r : Bool) : (s.setSwitch b r).waits = s.waits := rfl
@[simp] theorem State.setSwitch_batches (b : BayIx) (r : Bool) : (s.setSwitch b r).batches = s.batches := rfl
@[simp] theorem State.setSwitch_interlock (b : BayIx) (r : Bool) : (s.setSwitch b r).interlock = s.interlock := rfl
@[simp] theorem State.setSwitch_alarms (b : BayIx) (r : Bool) : (s.setSwitch b r).alarms = s.alarms := rfl
@[simp] theorem State.setSwitch_params (b : BayIx) (r : Bool) : (s.setSwitch b r).params = s.params := rfl
@[simp] theorem State.setSwitch_lastReply (b : BayIx) (r : Bool) : (s.setSwitch b r).lastReply = s.lastReply := rfl
@[simp] theorem State.setSwitch_freeCount (b : BayIx) (r : Bool) : (s.setSwitch b r).freeCount = s.freeCount := rfl
@[simp] theorem State.setSwitch_bay (b : BayIx) (r : Bool) (c : BayIx) : (s.setSwitch b r).bay c = s.bay c := rfl
@[simp] theorem State.setSwitch_channel (b : BayIx) (r : Bool) (c : BayIx) : (s.setSwitch b r).channel c = s.channel c := rfl
@[simp] theorem State.setSwitch_feed (b : BayIx) (r : Bool) (c : BayIx) : (s.setSwitch b r).feed c = s.feed c := rfl
@[simp] theorem State.setSwitch_valve (b : BayIx) (r : Bool) (c : BayIx) : (s.setSwitch b r).valve c = s.valve c := rfl
@[simp] theorem State.setSwitch_switch (b : BayIx) (r : Bool) : (s.setSwitch b r).switch b = r := by
  simp [State.setSwitch, State.switch]
theorem State.setSwitch_switch_ne (b : BayIx) (r : Bool) (c : BayIx) (h : c ≠ b) : (s.setSwitch b r).switch c = s.switch c := by
  have : b.val ≠ c.val := fun e => h (Fin.ext e.symm)
  simp [State.setSwitch, State.switch, Vector.getElem_set_ne, this]
@[simp] theorem State.setSwitch_node (b : BayIx) (r : Bool) (c : Node) : (s.setSwitch b r).node c = s.node c := rfl
@[simp] theorem State.setSwitch_line (b : BayIx) (r : Bool) (c : FoamLine) : (s.setSwitch b r).line c = s.line c := rfl
@[simp] theorem State.setSwitch_permitOn (b : BayIx) (r : Bool) : (s.setSwitch b r).permitOn = s.permitOn := rfl
@[simp] theorem State.setSwitch_entry (b : BayIx) (r : Bool) (m : Node) : (s.setSwitch b r).entry m = s.entry m := rfl
@[simp] theorem State.setSwitch_unitOpt (b : BayIx) (r : Bool) (u : Nat) : (s.setSwitch b r).unit? u = s.unit? u := rfl
@[simp] theorem State.setSwitch_boundUnit (b : BayIx) (r : Bool) (m : Node) : (s.setSwitch b r).boundUnit m = s.boundUnit m := rfl
@[simp] theorem State.setSwitch_ownedBay (b : BayIx) (r : Bool) (m : Node) : (s.setSwitch b r).ownedBay m = s.ownedBay m := rfl
@[simp] theorem State.setSwitch_passed (b : BayIx) (r : Bool) (d : Option Nat) : (s.setSwitch b r).passed d = s.passed d := rfl

/-! ## setNode -/

@[simp] theorem State.setNode_now (n : Node) (r : NodeRec) : (s.setNode n r).now = s.now := rfl
@[simp] theorem State.setNode_pending (n : Node) (r : NodeRec) : (s.setNode n r).pending = s.pending := rfl
@[simp] theorem State.setNode_inReset (n : Node) (r : NodeRec) : (s.setNode n r).inReset = s.inReset := rfl
@[simp] theorem State.setNode_switches (n : Node) (r : NodeRec) : (s.setNode n r).switches = s.switches := rfl
@[simp] theorem State.setNode_pli (n : Node) (r : NodeRec) : (s.setNode n r).pli = s.pli := rfl
@[simp] theorem State.setNode_units (n : Node) (r : NodeRec) : (s.setNode n r).units = s.units := rfl
@[simp] theorem State.setNode_bays (n : Node) (r : NodeRec) : (s.setNode n r).bays = s.bays := rfl
@[simp] theorem State.setNode_store (n : Node) (r : NodeRec) : (s.setNode n r).store = s.store := rfl
@[simp] theorem State.setNode_channels (n : Node) (r : NodeRec) : (s.setNode n r).channels = s.channels := rfl
@[simp] theorem State.setNode_feeds (n : Node) (r : NodeRec) : (s.setNode n r).feeds = s.feeds := rfl
@[simp] theorem State.setNode_valves (n : Node) (r : NodeRec) : (s.setNode n r).valves = s.valves := rfl
@[simp] theorem State.setNode_waits (n : Node) (r : NodeRec) : (s.setNode n r).waits = s.waits := rfl
@[simp] theorem State.setNode_batches (n : Node) (r : NodeRec) : (s.setNode n r).batches = s.batches := rfl
@[simp] theorem State.setNode_interlock (n : Node) (r : NodeRec) : (s.setNode n r).interlock = s.interlock := rfl
@[simp] theorem State.setNode_alarms (n : Node) (r : NodeRec) : (s.setNode n r).alarms = s.alarms := rfl
@[simp] theorem State.setNode_params (n : Node) (r : NodeRec) : (s.setNode n r).params = s.params := rfl
@[simp] theorem State.setNode_lastReply (n : Node) (r : NodeRec) : (s.setNode n r).lastReply = s.lastReply := rfl
@[simp] theorem State.setNode_freeCount (n : Node) (r : NodeRec) : (s.setNode n r).freeCount = s.freeCount := rfl
@[simp] theorem State.setNode_bay (n : Node) (r : NodeRec) (c : BayIx) : (s.setNode n r).bay c = s.bay c := rfl
@[simp] theorem State.setNode_channel (n : Node) (r : NodeRec) (c : BayIx) : (s.setNode n r).channel c = s.channel c := rfl
@[simp] theorem State.setNode_feed (n : Node) (r : NodeRec) (c : BayIx) : (s.setNode n r).feed c = s.feed c := rfl
@[simp] theorem State.setNode_valve (n : Node) (r : NodeRec) (c : BayIx) : (s.setNode n r).valve c = s.valve c := rfl
@[simp] theorem State.setNode_switch (n : Node) (r : NodeRec) (c : BayIx) : (s.setNode n r).switch c = s.switch c := rfl
@[simp] theorem State.setNode_node (n : Node) (r : NodeRec) : (s.setNode n r).node n = r := by
  simp [State.setNode, State.node]
theorem State.setNode_node_ne (n : Node) (r : NodeRec) (c : Node) (h : c ≠ n) : (s.setNode n r).node c = s.node c := by
  have : n.val ≠ c.val := fun e => h (Fin.ext e.symm)
  simp [State.setNode, State.node, Vector.getElem_set_ne, this]
@[simp] theorem State.setNode_line (n : Node) (r : NodeRec) (c : FoamLine) : (s.setNode n r).line c = s.line c := rfl
@[simp] theorem State.setNode_permitOn (n : Node) (r : NodeRec) : (s.setNode n r).permitOn = s.permitOn := rfl
@[simp] theorem State.setNode_entry (n : Node) (r : NodeRec) (m : Node) : (s.setNode n r).entry m = s.entry m := rfl
@[simp] theorem State.setNode_unitOpt (n : Node) (r : NodeRec) (u : Nat) : (s.setNode n r).unit? u = s.unit? u := rfl
@[simp] theorem State.setNode_boundUnit (n : Node) (r : NodeRec) (m : Node) : (s.setNode n r).boundUnit m = s.boundUnit m := rfl
@[simp] theorem State.setNode_ownedBay (n : Node) (r : NodeRec) (m : Node) : (s.setNode n r).ownedBay m = s.ownedBay m := rfl
@[simp] theorem State.setNode_passed (n : Node) (r : NodeRec) (d : Option Nat) : (s.setNode n r).passed d = s.passed d := rfl

/-! ## setLine -/

@[simp] theorem State.setLine_now (l : FoamLine) (r : LineRec) : (s.setLine l r).now = s.now := rfl
@[simp] theorem State.setLine_pending (l : FoamLine) (r : LineRec) : (s.setLine l r).pending = s.pending := rfl
@[simp] theorem State.setLine_inReset (l : FoamLine) (r : LineRec) : (s.setLine l r).inReset = s.inReset := rfl
@[simp] theorem State.setLine_switches (l : FoamLine) (r : LineRec) : (s.setLine l r).switches = s.switches := rfl
@[simp] theorem State.setLine_pli (l : FoamLine) (r : LineRec) : (s.setLine l r).pli = s.pli := rfl
@[simp] theorem State.setLine_nodes (l : FoamLine) (r : LineRec) : (s.setLine l r).nodes = s.nodes := rfl
@[simp] theorem State.setLine_units (l : FoamLine) (r : LineRec) : (s.setLine l r).units = s.units := rfl
@[simp] theorem State.setLine_bays (l : FoamLine) (r : LineRec) : (s.setLine l r).bays = s.bays := rfl
@[simp] theorem State.setLine_store (l : FoamLine) (r : LineRec) : (s.setLine l r).store = s.store := rfl
@[simp] theorem State.setLine_channels (l : FoamLine) (r : LineRec) : (s.setLine l r).channels = s.channels := rfl
@[simp] theorem State.setLine_feeds (l : FoamLine) (r : LineRec) : (s.setLine l r).feeds = s.feeds := rfl
@[simp] theorem State.setLine_valves (l : FoamLine) (r : LineRec) : (s.setLine l r).valves = s.valves := rfl
@[simp] theorem State.setLine_waits (l : FoamLine) (r : LineRec) : (s.setLine l r).waits = s.waits := rfl
@[simp] theorem State.setLine_interlock (l : FoamLine) (r : LineRec) : (s.setLine l r).interlock = s.interlock := rfl
@[simp] theorem State.setLine_alarms (l : FoamLine) (r : LineRec) : (s.setLine l r).alarms = s.alarms := rfl
@[simp] theorem State.setLine_params (l : FoamLine) (r : LineRec) : (s.setLine l r).params = s.params := rfl
@[simp] theorem State.setLine_lastReply (l : FoamLine) (r : LineRec) : (s.setLine l r).lastReply = s.lastReply := rfl
@[simp] theorem State.setLine_freeCount (l : FoamLine) (r : LineRec) : (s.setLine l r).freeCount = s.freeCount := rfl
@[simp] theorem State.setLine_expect (l : FoamLine) (r : LineRec) : (s.setLine l r).batches.expect = s.batches.expect := rfl
@[simp] theorem State.setLine_bay (l : FoamLine) (r : LineRec) (c : BayIx) : (s.setLine l r).bay c = s.bay c := rfl
@[simp] theorem State.setLine_channel (l : FoamLine) (r : LineRec) (c : BayIx) : (s.setLine l r).channel c = s.channel c := rfl
@[simp] theorem State.setLine_feed (l : FoamLine) (r : LineRec) (c : BayIx) : (s.setLine l r).feed c = s.feed c := rfl
@[simp] theorem State.setLine_valve (l : FoamLine) (r : LineRec) (c : BayIx) : (s.setLine l r).valve c = s.valve c := rfl
@[simp] theorem State.setLine_switch (l : FoamLine) (r : LineRec) (c : BayIx) : (s.setLine l r).switch c = s.switch c := rfl
@[simp] theorem State.setLine_node (l : FoamLine) (r : LineRec) (c : Node) : (s.setLine l r).node c = s.node c := rfl
@[simp] theorem State.setLine_line (l : FoamLine) (r : LineRec) : (s.setLine l r).line l = r := by
  simp [State.setLine, State.line]
theorem State.setLine_line_ne (l : FoamLine) (r : LineRec) (c : FoamLine) (h : c ≠ l) : (s.setLine l r).line c = s.line c := by
  have : l.val ≠ c.val := fun e => h (Fin.ext e.symm)
  simp [State.setLine, State.line, Vector.getElem_set_ne, this]
@[simp] theorem State.setLine_permitOn (l : FoamLine) (r : LineRec) : (s.setLine l r).permitOn = s.permitOn := rfl
@[simp] theorem State.setLine_entry (l : FoamLine) (r : LineRec) (m : Node) : (s.setLine l r).entry m = s.entry m := rfl
@[simp] theorem State.setLine_unitOpt (l : FoamLine) (r : LineRec) (u : Nat) : (s.setLine l r).unit? u = s.unit? u := rfl
@[simp] theorem State.setLine_boundUnit (l : FoamLine) (r : LineRec) (m : Node) : (s.setLine l r).boundUnit m = s.boundUnit m := rfl
@[simp] theorem State.setLine_ownedBay (l : FoamLine) (r : LineRec) (m : Node) : (s.setLine l r).ownedBay m = s.ownedBay m := rfl
@[simp] theorem State.setLine_passed (l : FoamLine) (r : LineRec) (d : Option Nat) : (s.setLine l r).passed d = s.passed d := rfl

/-! ## setWaits -/

@[simp] theorem State.setWaits_now (ws : List WaitEntry) : (s.setWaits ws).now = s.now := rfl
@[simp] theorem State.setWaits_pending (ws : List WaitEntry) : (s.setWaits ws).pending = s.pending := rfl
@[simp] theorem State.setWaits_inReset (ws : List WaitEntry) : (s.setWaits ws).inReset = s.inReset := rfl
@[simp] theorem State.setWaits_switches (ws : List WaitEntry) : (s.setWaits ws).switches = s.switches := rfl
@[simp] theorem State.setWaits_pli (ws : List WaitEntry) : (s.setWaits ws).pli = s.pli := rfl
@[simp] theorem State.setWaits_nodes (ws : List WaitEntry) : (s.setWaits ws).nodes = s.nodes := rfl
@[simp] theorem State.setWaits_units (ws : List WaitEntry) : (s.setWaits ws).units = s.units := rfl
@[simp] theorem State.setWaits_bays (ws : List WaitEntry) : (s.setWaits ws).bays = s.bays := rfl
@[simp] theorem State.setWaits_store (ws : List WaitEntry) : (s.setWaits ws).store = s.store := rfl
@[simp] theorem State.setWaits_channels (ws : List WaitEntry) : (s.setWaits ws).channels = s.channels := rfl
@[simp] theorem State.setWaits_feeds (ws : List WaitEntry) : (s.setWaits ws).feeds = s.feeds := rfl
@[simp] theorem State.setWaits_valves (ws : List WaitEntry) : (s.setWaits ws).valves = s.valves := rfl
@[simp] theorem State.setWaits_waits (ws : List WaitEntry) : (s.setWaits ws).waits = ws := rfl
@[simp] theorem State.setWaits_batches (ws : List WaitEntry) : (s.setWaits ws).batches = s.batches := rfl
@[simp] theorem State.setWaits_interlock (ws : List WaitEntry) : (s.setWaits ws).interlock = s.interlock := rfl
@[simp] theorem State.setWaits_alarms (ws : List WaitEntry) : (s.setWaits ws).alarms = s.alarms := rfl
@[simp] theorem State.setWaits_params (ws : List WaitEntry) : (s.setWaits ws).params = s.params := rfl
@[simp] theorem State.setWaits_lastReply (ws : List WaitEntry) : (s.setWaits ws).lastReply = s.lastReply := rfl
@[simp] theorem State.setWaits_freeCount (ws : List WaitEntry) : (s.setWaits ws).freeCount = s.freeCount := rfl
@[simp] theorem State.setWaits_bay (ws : List WaitEntry) (c : BayIx) : (s.setWaits ws).bay c = s.bay c := rfl
@[simp] theorem State.setWaits_channel (ws : List WaitEntry) (c : BayIx) : (s.setWaits ws).channel c = s.channel c := rfl
@[simp] theorem State.setWaits_feed (ws : List WaitEntry) (c : BayIx) : (s.setWaits ws).feed c = s.feed c := rfl
@[simp] theorem State.setWaits_valve (ws : List WaitEntry) (c : BayIx) : (s.setWaits ws).valve c = s.valve c := rfl
@[simp] theorem State.setWaits_switch (ws : List WaitEntry) (c : BayIx) : (s.setWaits ws).switch c = s.switch c := rfl
@[simp] theorem State.setWaits_node (ws : List WaitEntry) (c : Node) : (s.setWaits ws).node c = s.node c := rfl
@[simp] theorem State.setWaits_line (ws : List WaitEntry) (c : FoamLine) : (s.setWaits ws).line c = s.line c := rfl
@[simp] theorem State.setWaits_permitOn (ws : List WaitEntry) : (s.setWaits ws).permitOn = s.permitOn := rfl
@[simp] theorem State.setWaits_unitOpt (ws : List WaitEntry) (u : Nat) : (s.setWaits ws).unit? u = s.unit? u := rfl
@[simp] theorem State.setWaits_boundUnit (ws : List WaitEntry) (m : Node) : (s.setWaits ws).boundUnit m = s.boundUnit m := rfl
@[simp] theorem State.setWaits_ownedBay (ws : List WaitEntry) (m : Node) : (s.setWaits ws).ownedBay m = s.ownedBay m := rfl
@[simp] theorem State.setWaits_passed (ws : List WaitEntry) (d : Option Nat) : (s.setWaits ws).passed d = s.passed d := rfl

/-! ## setUnits -/

@[simp] theorem State.setUnits_now (us : List UnitRec) : (s.setUnits us).now = s.now := rfl
@[simp] theorem State.setUnits_pending (us : List UnitRec) : (s.setUnits us).pending = s.pending := rfl
@[simp] theorem State.setUnits_inReset (us : List UnitRec) : (s.setUnits us).inReset = s.inReset := rfl
@[simp] theorem State.setUnits_switches (us : List UnitRec) : (s.setUnits us).switches = s.switches := rfl
@[simp] theorem State.setUnits_pli (us : List UnitRec) : (s.setUnits us).pli = s.pli := rfl
@[simp] theorem State.setUnits_nodes (us : List UnitRec) : (s.setUnits us).nodes = s.nodes := rfl
@[simp] theorem State.setUnits_units (us : List UnitRec) : (s.setUnits us).units = us := rfl
@[simp] theorem State.setUnits_bays (us : List UnitRec) : (s.setUnits us).bays = s.bays := rfl
@[simp] theorem State.setUnits_store (us : List UnitRec) : (s.setUnits us).store = s.store := rfl
@[simp] theorem State.setUnits_channels (us : List UnitRec) : (s.setUnits us).channels = s.channels := rfl
@[simp] theorem State.setUnits_feeds (us : List UnitRec) : (s.setUnits us).feeds = s.feeds := rfl
@[simp] theorem State.setUnits_valves (us : List UnitRec) : (s.setUnits us).valves = s.valves := rfl
@[simp] theorem State.setUnits_waits (us : List UnitRec) : (s.setUnits us).waits = s.waits := rfl
@[simp] theorem State.setUnits_batches (us : List UnitRec) : (s.setUnits us).batches = s.batches := rfl
@[simp] theorem State.setUnits_interlock (us : List UnitRec) : (s.setUnits us).interlock = s.interlock := rfl
@[simp] theorem State.setUnits_alarms (us : List UnitRec) : (s.setUnits us).alarms = s.alarms := rfl
@[simp] theorem State.setUnits_params (us : List UnitRec) : (s.setUnits us).params = s.params := rfl
@[simp] theorem State.setUnits_lastReply (us : List UnitRec) : (s.setUnits us).lastReply = s.lastReply := rfl
@[simp] theorem State.setUnits_freeCount (us : List UnitRec) : (s.setUnits us).freeCount = s.freeCount := rfl
@[simp] theorem State.setUnits_bay (us : List UnitRec) (c : BayIx) : (s.setUnits us).bay c = s.bay c := rfl
@[simp] theorem State.setUnits_channel (us : List UnitRec) (c : BayIx) : (s.setUnits us).channel c = s.channel c := rfl
@[simp] theorem State.setUnits_feed (us : List UnitRec) (c : BayIx) : (s.setUnits us).feed c = s.feed c := rfl
@[simp] theorem State.setUnits_valve (us : List UnitRec) (c : BayIx) : (s.setUnits us).valve c = s.valve c := rfl
@[simp] theorem State.setUnits_switch (us : List UnitRec) (c : BayIx) : (s.setUnits us).switch c = s.switch c := rfl
@[simp] theorem State.setUnits_node (us : List UnitRec) (c : Node) : (s.setUnits us).node c = s.node c := rfl
@[simp] theorem State.setUnits_line (us : List UnitRec) (c : FoamLine) : (s.setUnits us).line c = s.line c := rfl
@[simp] theorem State.setUnits_permitOn (us : List UnitRec) : (s.setUnits us).permitOn = s.permitOn := rfl
@[simp] theorem State.setUnits_entry (us : List UnitRec) (m : Node) : (s.setUnits us).entry m = s.entry m := rfl
@[simp] theorem State.setUnits_ownedBay (us : List UnitRec) (m : Node) : (s.setUnits us).ownedBay m = s.ownedBay m := rfl
@[simp] theorem State.setUnits_passed (us : List UnitRec) (d : Option Nat) : (s.setUnits us).passed d = s.passed d := rfl

/-! ## setPli -/

@[simp] theorem State.setPli_now (p : Pli) : (s.setPli p).now = s.now := rfl
@[simp] theorem State.setPli_pending (p : Pli) : (s.setPli p).pending = s.pending := rfl
@[simp] theorem State.setPli_inReset (p : Pli) : (s.setPli p).inReset = s.inReset := rfl
@[simp] theorem State.setPli_switches (p : Pli) : (s.setPli p).switches = s.switches := rfl
@[simp] theorem State.setPli_pli (p : Pli) : (s.setPli p).pli = p := rfl
@[simp] theorem State.setPli_nodes (p : Pli) : (s.setPli p).nodes = s.nodes := rfl
@[simp] theorem State.setPli_units (p : Pli) : (s.setPli p).units = s.units := rfl
@[simp] theorem State.setPli_bays (p : Pli) : (s.setPli p).bays = s.bays := rfl
@[simp] theorem State.setPli_store (p : Pli) : (s.setPli p).store = s.store := rfl
@[simp] theorem State.setPli_channels (p : Pli) : (s.setPli p).channels = s.channels := rfl
@[simp] theorem State.setPli_feeds (p : Pli) : (s.setPli p).feeds = s.feeds := rfl
@[simp] theorem State.setPli_valves (p : Pli) : (s.setPli p).valves = s.valves := rfl
@[simp] theorem State.setPli_waits (p : Pli) : (s.setPli p).waits = s.waits := rfl
@[simp] theorem State.setPli_batches (p : Pli) : (s.setPli p).batches = s.batches := rfl
@[simp] theorem State.setPli_interlock (p : Pli) : (s.setPli p).interlock = s.interlock := rfl
@[simp] theorem State.setPli_alarms (p : Pli) : (s.setPli p).alarms = s.alarms := rfl
@[simp] theorem State.setPli_params (p : Pli) : (s.setPli p).params = s.params := rfl
@[simp] theorem State.setPli_lastReply (p : Pli) : (s.setPli p).lastReply = s.lastReply := rfl
@[simp] theorem State.setPli_freeCount (p : Pli) : (s.setPli p).freeCount = s.freeCount := rfl
@[simp] theorem State.setPli_bay (p : Pli) (c : BayIx) : (s.setPli p).bay c = s.bay c := rfl
@[simp] theorem State.setPli_channel (p : Pli) (c : BayIx) : (s.setPli p).channel c = s.channel c := rfl
@[simp] theorem State.setPli_feed (p : Pli) (c : BayIx) : (s.setPli p).feed c = s.feed c := rfl
@[simp] theorem State.setPli_valve (p : Pli) (c : BayIx) : (s.setPli p).valve c = s.valve c := rfl
@[simp] theorem State.setPli_switch (p : Pli) (c : BayIx) : (s.setPli p).switch c = s.switch c := rfl
@[simp] theorem State.setPli_node (p : Pli) (c : Node) : (s.setPli p).node c = s.node c := rfl
@[simp] theorem State.setPli_line (p : Pli) (c : FoamLine) : (s.setPli p).line c = s.line c := rfl
@[simp] theorem State.setPli_permitOn (p : Pli) : (s.setPli p).permitOn = s.permitOn := rfl
@[simp] theorem State.setPli_entry (p : Pli) (m : Node) : (s.setPli p).entry m = s.entry m := rfl
@[simp] theorem State.setPli_unitOpt (p : Pli) (u : Nat) : (s.setPli p).unit? u = s.unit? u := rfl
@[simp] theorem State.setPli_boundUnit (p : Pli) (m : Node) : (s.setPli p).boundUnit m = s.boundUnit m := rfl
@[simp] theorem State.setPli_ownedBay (p : Pli) (m : Node) : (s.setPli p).ownedBay m = s.ownedBay m := rfl
@[simp] theorem State.setPli_passed (p : Pli) (d : Option Nat) : (s.setPli p).passed d = s.passed d := rfl

/-! ## setStoreOp -/

@[simp] theorem State.setStoreOp_now (op : StoreOp) : (s.setStoreOp op).now = s.now := rfl
@[simp] theorem State.setStoreOp_pending (op : StoreOp) : (s.setStoreOp op).pending = s.pending := rfl
@[simp] theorem State.setStoreOp_inReset (op : StoreOp) : (s.setStoreOp op).inReset = s.inReset := rfl
@[simp] theorem State.setStoreOp_switches (op : StoreOp) : (s.setStoreOp op).switches = s.switches := rfl
@[simp] theorem State.setStoreOp_pli (op : StoreOp) : (s.setStoreOp op).pli = s.pli := rfl
@[simp] theorem State.setStoreOp_nodes (op : StoreOp) : (s.setStoreOp op).nodes = s.nodes := rfl
@[simp] theorem State.setStoreOp_units (op : StoreOp) : (s.setStoreOp op).units = s.units := rfl
@[simp] theorem State.setStoreOp_bays (op : StoreOp) : (s.setStoreOp op).bays = s.bays := rfl
@[simp] theorem State.setStoreOp_store (op : StoreOp) : (s.setStoreOp op).store = { s.store with op := op } := rfl
@[simp] theorem State.setStoreOp_channels (op : StoreOp) : (s.setStoreOp op).channels = s.channels := rfl
@[simp] theorem State.setStoreOp_feeds (op : StoreOp) : (s.setStoreOp op).feeds = s.feeds := rfl
@[simp] theorem State.setStoreOp_valves (op : StoreOp) : (s.setStoreOp op).valves = s.valves := rfl
@[simp] theorem State.setStoreOp_waits (op : StoreOp) : (s.setStoreOp op).waits = s.waits := rfl
@[simp] theorem State.setStoreOp_batches (op : StoreOp) : (s.setStoreOp op).batches = s.batches := rfl
@[simp] theorem State.setStoreOp_interlock (op : StoreOp) : (s.setStoreOp op).interlock = s.interlock := rfl
@[simp] theorem State.setStoreOp_alarms (op : StoreOp) : (s.setStoreOp op).alarms = s.alarms := rfl
@[simp] theorem State.setStoreOp_params (op : StoreOp) : (s.setStoreOp op).params = s.params := rfl
@[simp] theorem State.setStoreOp_lastReply (op : StoreOp) : (s.setStoreOp op).lastReply = s.lastReply := rfl
@[simp] theorem State.setStoreOp_freeCount (op : StoreOp) : (s.setStoreOp op).freeCount = s.freeCount := rfl
@[simp] theorem State.setStoreOp_bay (op : StoreOp) (c : BayIx) : (s.setStoreOp op).bay c = s.bay c := rfl
@[simp] theorem State.setStoreOp_channel (op : StoreOp) (c : BayIx) : (s.setStoreOp op).channel c = s.channel c := rfl
@[simp] theorem State.setStoreOp_feed (op : StoreOp) (c : BayIx) : (s.setStoreOp op).feed c = s.feed c := rfl
@[simp] theorem State.setStoreOp_valve (op : StoreOp) (c : BayIx) : (s.setStoreOp op).valve c = s.valve c := rfl
@[simp] theorem State.setStoreOp_switch (op : StoreOp) (c : BayIx) : (s.setStoreOp op).switch c = s.switch c := rfl
@[simp] theorem State.setStoreOp_node (op : StoreOp) (c : Node) : (s.setStoreOp op).node c = s.node c := rfl
@[simp] theorem State.setStoreOp_line (op : StoreOp) (c : FoamLine) : (s.setStoreOp op).line c = s.line c := rfl
@[simp] theorem State.setStoreOp_permitOn (op : StoreOp) : (s.setStoreOp op).permitOn = s.permitOn := rfl
@[simp] theorem State.setStoreOp_entry (op : StoreOp) (m : Node) : (s.setStoreOp op).entry m = s.entry m := rfl
@[simp] theorem State.setStoreOp_unitOpt (op : StoreOp) (u : Nat) : (s.setStoreOp op).unit? u = s.unit? u := rfl
@[simp] theorem State.setStoreOp_boundUnit (op : StoreOp) (m : Node) : (s.setStoreOp op).boundUnit m = s.boundUnit m := rfl
@[simp] theorem State.setStoreOp_ownedBay (op : StoreOp) (m : Node) : (s.setStoreOp op).ownedBay m = s.ownedBay m := rfl
@[simp] theorem State.setStoreOp_passed (op : StoreOp) (d : Option Nat) : (s.setStoreOp op).passed d = s.passed d := rfl

/-! ## alarm -/

@[simp] theorem State.alarm_now (k : AlarmKind) (x : Option Nat) (v : Int) : (s.alarm k x v).now = s.now := rfl
@[simp] theorem State.alarm_pending (k : AlarmKind) (x : Option Nat) (v : Int) : (s.alarm k x v).pending = s.pending := rfl
@[simp] theorem State.alarm_inReset (k : AlarmKind) (x : Option Nat) (v : Int) : (s.alarm k x v).inReset = s.inReset := rfl
@[simp] theorem State.alarm_switches (k : AlarmKind) (x : Option Nat) (v : Int) : (s.alarm k x v).switches = s.switches := rfl
@[simp] theorem State.alarm_pli (k : AlarmKind) (x : Option Nat) (v : Int) : (s.alarm k x v).pli = s.pli := rfl
@[simp] theorem State.alarm_nodes (k : AlarmKind) (x : Option Nat) (v : Int) : (s.alarm k x v).nodes = s.nodes := rfl
@[simp] theorem State.alarm_units (k : AlarmKind) (x : Option Nat) (v : Int) : (s.alarm k x v).units = s.units := rfl
@[simp] theorem State.alarm_bays (k : AlarmKind) (x : Option Nat) (v : Int) : (s.alarm k x v).bays = s.bays := rfl
@[simp] theorem State.alarm_store (k : AlarmKind) (x : Option Nat) (v : Int) : (s.alarm k x v).store = s.store := rfl
@[simp] theorem State.alarm_channels (k : AlarmKind) (x : Option Nat) (v : Int) : (s.alarm k x v).channels = s.channels := rfl
@[simp] theorem State.alarm_feeds (k : AlarmKind) (x : Option Nat) (v : Int) : (s.alarm k x v).feeds = s.feeds := rfl
@[simp] theorem State.alarm_valves (k : AlarmKind) (x : Option Nat) (v : Int) : (s.alarm k x v).valves = s.valves := rfl
@[simp] theorem State.alarm_waits (k : AlarmKind) (x : Option Nat) (v : Int) : (s.alarm k x v).waits = s.waits := rfl
@[simp] theorem State.alarm_batches (k : AlarmKind) (x : Option Nat) (v : Int) : (s.alarm k x v).batches = s.batches := rfl
@[simp] theorem State.alarm_interlock (k : AlarmKind) (x : Option Nat) (v : Int) : (s.alarm k x v).interlock = s.interlock := rfl
@[simp] theorem State.alarm_alarms (k : AlarmKind) (x : Option Nat) (v : Int) : (s.alarm k x v).alarms = s.alarms.count k x v := rfl
@[simp] theorem State.alarm_params (k : AlarmKind) (x : Option Nat) (v : Int) : (s.alarm k x v).params = s.params := rfl
@[simp] theorem State.alarm_lastReply (k : AlarmKind) (x : Option Nat) (v : Int) : (s.alarm k x v).lastReply = s.lastReply := rfl
@[simp] theorem State.alarm_freeCount (k : AlarmKind) (x : Option Nat) (v : Int) : (s.alarm k x v).freeCount = s.freeCount := rfl
@[simp] theorem State.alarm_bay (k : AlarmKind) (x : Option Nat) (v : Int) (c : BayIx) : (s.alarm k x v).bay c = s.bay c := rfl
@[simp] theorem State.alarm_channel (k : AlarmKind) (x : Option Nat) (v : Int) (c : BayIx) : (s.alarm k x v).channel c = s.channel c := rfl
@[simp] theorem State.alarm_feed (k : AlarmKind) (x : Option Nat) (v : Int) (c : BayIx) : (s.alarm k x v).feed c = s.feed c := rfl
@[simp] theorem State.alarm_valve (k : AlarmKind) (x : Option Nat) (v : Int) (c : BayIx) : (s.alarm k x v).valve c = s.valve c := rfl
@[simp] theorem State.alarm_switch (k : AlarmKind) (x : Option Nat) (v : Int) (c : BayIx) : (s.alarm k x v).switch c = s.switch c := rfl
@[simp] theorem State.alarm_node (k : AlarmKind) (x : Option Nat) (v : Int) (c : Node) : (s.alarm k x v).node c = s.node c := rfl
@[simp] theorem State.alarm_line (k : AlarmKind) (x : Option Nat) (v : Int) (c : FoamLine) : (s.alarm k x v).line c = s.line c := rfl
@[simp] theorem State.alarm_permitOn (k : AlarmKind) (x : Option Nat) (v : Int) : (s.alarm k x v).permitOn = s.permitOn := rfl
@[simp] theorem State.alarm_entry (k : AlarmKind) (x : Option Nat) (v : Int) (m : Node) : (s.alarm k x v).entry m = s.entry m := rfl
@[simp] theorem State.alarm_unitOpt (k : AlarmKind) (x : Option Nat) (v : Int) (u : Nat) : (s.alarm k x v).unit? u = s.unit? u := rfl
@[simp] theorem State.alarm_boundUnit (k : AlarmKind) (x : Option Nat) (v : Int) (m : Node) : (s.alarm k x v).boundUnit m = s.boundUnit m := rfl
@[simp] theorem State.alarm_ownedBay (k : AlarmKind) (x : Option Nat) (v : Int) (m : Node) : (s.alarm k x v).ownedBay m = s.ownedBay m := rfl
@[simp] theorem State.alarm_passed (k : AlarmKind) (x : Option Nat) (v : Int) (d : Option Nat) : (s.alarm k x v).passed d = s.passed d := rfl

/-! ## advance -/

@[simp] theorem State.advance_now (arrival : Nat) : (s.advance arrival).now = max s.now arrival := rfl
@[simp] theorem State.advance_pending (arrival : Nat) : (s.advance arrival).pending = s.pending := rfl
@[simp] theorem State.advance_inReset (arrival : Nat) : (s.advance arrival).inReset = s.inReset := rfl
@[simp] theorem State.advance_switches (arrival : Nat) : (s.advance arrival).switches = s.switches := rfl
@[simp] theorem State.advance_pli (arrival : Nat) : (s.advance arrival).pli = s.pli := rfl
@[simp] theorem State.advance_nodes (arrival : Nat) : (s.advance arrival).nodes = s.nodes := rfl
@[simp] theorem State.advance_units (arrival : Nat) : (s.advance arrival).units = s.units := rfl
@[simp] theorem State.advance_bays (arrival : Nat) : (s.advance arrival).bays = s.bays := rfl
@[simp] theorem State.advance_store (arrival : Nat) : (s.advance arrival).store = s.store := rfl
@[simp] theorem State.advance_channels (arrival : Nat) : (s.advance arrival).channels = s.channels := rfl
@[simp] theorem State.advance_feeds (arrival : Nat) : (s.advance arrival).feeds = s.feeds := rfl
@[simp] theorem State.advance_valves (arrival : Nat) : (s.advance arrival).valves = s.valves := rfl
@[simp] theorem State.advance_waits (arrival : Nat) : (s.advance arrival).waits = s.waits := rfl
@[simp] theorem State.advance_batches (arrival : Nat) : (s.advance arrival).batches = s.batches := rfl
@[simp] theorem State.advance_interlock (arrival : Nat) : (s.advance arrival).interlock = s.interlock := rfl
@[simp] theorem State.advance_alarms (arrival : Nat) : (s.advance arrival).alarms = s.alarms := rfl
@[simp] theorem State.advance_params (arrival : Nat) : (s.advance arrival).params = s.params := rfl
@[simp] theorem State.advance_lastReply (arrival : Nat) : (s.advance arrival).lastReply = s.lastReply := rfl
@[simp] theorem State.advance_freeCount (arrival : Nat) : (s.advance arrival).freeCount = s.freeCount := rfl
@[simp] theorem State.advance_bay (arrival : Nat) (c : BayIx) : (s.advance arrival).bay c = s.bay c := rfl
@[simp] theorem State.advance_channel (arrival : Nat) (c : BayIx) : (s.advance arrival).channel c = s.channel c := rfl
@[simp] theorem State.advance_feed (arrival : Nat) (c : BayIx) : (s.advance arrival).feed c = s.feed c := rfl
@[simp] theorem State.advance_valve (arrival : Nat) (c : BayIx) : (s.advance arrival).valve c = s.valve c := rfl
@[simp] theorem State.advance_switch (arrival : Nat) (c : BayIx) : (s.advance arrival).switch c = s.switch c := rfl
@[simp] theorem State.advance_node (arrival : Nat) (c : Node) : (s.advance arrival).node c = s.node c := rfl
@[simp] theorem State.advance_line (arrival : Nat) (c : FoamLine) : (s.advance arrival).line c = s.line c := rfl
@[simp] theorem State.advance_permitOn (arrival : Nat) : (s.advance arrival).permitOn = s.permitOn := rfl
@[simp] theorem State.advance_entry (arrival : Nat) (m : Node) : (s.advance arrival).entry m = s.entry m := rfl
@[simp] theorem State.advance_unitOpt (arrival : Nat) (u : Nat) : (s.advance arrival).unit? u = s.unit? u := rfl
@[simp] theorem State.advance_boundUnit (arrival : Nat) (m : Node) : (s.advance arrival).boundUnit m = s.boundUnit m := rfl
@[simp] theorem State.advance_ownedBay (arrival : Nat) (m : Node) : (s.advance arrival).ownedBay m = s.ownedBay m := rfl

/-! ## replied -/

@[simp] theorem State.replied_now (n : Node) (tag : Nat) (k : ReqKind) (st : Status) (b : Body) : (s.replied n tag k st b).now = s.now := rfl
@[simp] theorem State.replied_pending (n : Node) (tag : Nat) (k : ReqKind) (st : Status) (b : Body) : (s.replied n tag k st b).pending = s.pending := rfl
@[simp] theorem State.replied_inReset (n : Node) (tag : Nat) (k : ReqKind) (st : Status) (b : Body) : (s.replied n tag k st b).inReset = s.inReset := rfl
@[simp] theorem State.replied_switches (n : Node) (tag : Nat) (k : ReqKind) (st : Status) (b : Body) : (s.replied n tag k st b).switches = s.switches := rfl
@[simp] theorem State.replied_pli (n : Node) (tag : Nat) (k : ReqKind) (st : Status) (b : Body) : (s.replied n tag k st b).pli = s.pli := rfl
@[simp] theorem State.replied_nodes (n : Node) (tag : Nat) (k : ReqKind) (st : Status) (b : Body) : (s.replied n tag k st b).nodes = s.nodes := rfl
@[simp] theorem State.replied_units (n : Node) (tag : Nat) (k : ReqKind) (st : Status) (b : Body) : (s.replied n tag k st b).units = s.units := rfl
@[simp] theorem State.replied_bays (n : Node) (tag : Nat) (k : ReqKind) (st : Status) (b : Body) : (s.replied n tag k st b).bays = s.bays := rfl
@[simp] theorem State.replied_store (n : Node) (tag : Nat) (k : ReqKind) (st : Status) (b : Body) : (s.replied n tag k st b).store = s.store := rfl
@[simp] theorem State.replied_channels (n : Node) (tag : Nat) (k : ReqKind) (st : Status) (b : Body) : (s.replied n tag k st b).channels = s.channels := rfl
@[simp] theorem State.replied_feeds (n : Node) (tag : Nat) (k : ReqKind) (st : Status) (b : Body) : (s.replied n tag k st b).feeds = s.feeds := rfl
@[simp] theorem State.replied_valves (n : Node) (tag : Nat) (k : ReqKind) (st : Status) (b : Body) : (s.replied n tag k st b).valves = s.valves := rfl
@[simp] theorem State.replied_waits (n : Node) (tag : Nat) (k : ReqKind) (st : Status) (b : Body) : (s.replied n tag k st b).waits = s.waits := rfl
@[simp] theorem State.replied_batches (n : Node) (tag : Nat) (k : ReqKind) (st : Status) (b : Body) : (s.replied n tag k st b).batches = s.batches := rfl
@[simp] theorem State.replied_interlock (n : Node) (tag : Nat) (k : ReqKind) (st : Status) (b : Body) : (s.replied n tag k st b).interlock = s.interlock := rfl
@[simp] theorem State.replied_alarms (n : Node) (tag : Nat) (k : ReqKind) (st : Status) (b : Body) : (s.replied n tag k st b).alarms = s.alarms := rfl
@[simp] theorem State.replied_params (n : Node) (tag : Nat) (k : ReqKind) (st : Status) (b : Body) : (s.replied n tag k st b).params = s.params := rfl
@[simp] theorem State.replied_lastReply (n : Node) (tag : Nat) (k : ReqKind) (st : Status) (b : Body) :
    (s.replied n tag k st b).lastReply = some { node := n, tag := tag, kind := k, status := st, body := b } := rfl
@[simp] theorem State.replied_freeCount (n : Node) (tag : Nat) (k : ReqKind) (st : Status) (b : Body) : (s.replied n tag k st b).freeCount = s.freeCount := rfl
@[simp] theorem State.replied_bay (n : Node) (tag : Nat) (k : ReqKind) (st : Status) (b : Body) (c : BayIx) : (s.replied n tag k st b).bay c = s.bay c := rfl
@[simp] theorem State.replied_channel (n : Node) (tag : Nat) (k : ReqKind) (st : Status) (b : Body) (c : BayIx) : (s.replied n tag k st b).channel c = s.channel c := rfl
@[simp] theorem State.replied_feed (n : Node) (tag : Nat) (k : ReqKind) (st : Status) (b : Body) (c : BayIx) : (s.replied n tag k st b).feed c = s.feed c := rfl
@[simp] theorem State.replied_valve (n : Node) (tag : Nat) (k : ReqKind) (st : Status) (b : Body) (c : BayIx) : (s.replied n tag k st b).valve c = s.valve c := rfl
@[simp] theorem State.replied_switch (n : Node) (tag : Nat) (k : ReqKind) (st : Status) (b : Body) (c : BayIx) : (s.replied n tag k st b).switch c = s.switch c := rfl
@[simp] theorem State.replied_node (n : Node) (tag : Nat) (k : ReqKind) (st : Status) (b : Body) (c : Node) : (s.replied n tag k st b).node c = s.node c := rfl
@[simp] theorem State.replied_line (n : Node) (tag : Nat) (k : ReqKind) (st : Status) (b : Body) (c : FoamLine) : (s.replied n tag k st b).line c = s.line c := rfl
@[simp] theorem State.replied_permitOn (n : Node) (tag : Nat) (k : ReqKind) (st : Status) (b : Body) : (s.replied n tag k st b).permitOn = s.permitOn := rfl
@[simp] theorem State.replied_entry (n : Node) (tag : Nat) (k : ReqKind) (st : Status) (b : Body) (m : Node) : (s.replied n tag k st b).entry m = s.entry m := rfl
@[simp] theorem State.replied_unitOpt (n : Node) (tag : Nat) (k : ReqKind) (st : Status) (b : Body) (u : Nat) : (s.replied n tag k st b).unit? u = s.unit? u := rfl
@[simp] theorem State.replied_boundUnit (n : Node) (tag : Nat) (k : ReqKind) (st : Status) (b : Body) (m : Node) : (s.replied n tag k st b).boundUnit m = s.boundUnit m := rfl
@[simp] theorem State.replied_ownedBay (n : Node) (tag : Nat) (k : ReqKind) (st : Status) (b : Body) (m : Node) : (s.replied n tag k st b).ownedBay m = s.ownedBay m := rfl
@[simp] theorem State.replied_passed (n : Node) (tag : Nat) (k : ReqKind) (st : Status) (b : Body) (d : Option Nat) : (s.replied n tag k st b).passed d = s.passed d := rfl

/-! ## Updates of what is already there -/

@[simp] theorem State.setBay_same (b : BayIx) : s.setBay b (s.bay b) = s := by simp [State.setBay, State.bay]
@[simp] theorem State.setChannel_same (b : BayIx) : s.setChannel b (s.channel b) = s := by
  simp [State.setChannel, State.channel]
@[simp] theorem State.setFeed_same (b : BayIx) : s.setFeed b (s.feed b) = s := by simp [State.setFeed, State.feed]
@[simp] theorem State.setNode_same (n : Node) : s.setNode n (s.node n) = s := by simp [State.setNode, State.node]
@[simp] theorem State.setLine_same (l : FoamLine) : s.setLine l (s.line l) = s := by simp [State.setLine, State.line]

/-! ## The last of two updates stands -/

@[simp] theorem State.setBay_setBay (b : BayIx) (r q : Bay) : (s.setBay b r).setBay b q = s.setBay b q := by
  simp [State.setBay, Vector.set_set]
@[simp] theorem State.setChannel_setChannel (b : BayIx) (r q : Channel) :
    (s.setChannel b r).setChannel b q = s.setChannel b q := by simp [State.setChannel, Vector.set_set]
@[simp] theorem State.setFeed_setFeed (b : BayIx) (r q : Option Feed) :
    (s.setFeed b r).setFeed b q = s.setFeed b q := by simp [State.setFeed, Vector.set_set]
@[simp] theorem State.setNode_setNode (n : Node) (r q : NodeRec) :
    (s.setNode n r).setNode n q = s.setNode n q := by simp [State.setNode, Vector.set_set]
@[simp] theorem State.setLine_setLine (l : FoamLine) (r q : LineRec) :
    (s.setLine l r).setLine l q = s.setLine l q := by simp [State.setLine, Vector.set_set]
@[simp] theorem State.setPli_setPli (p q : Pli) : (s.setPli p).setPli q = s.setPli q := rfl

end Sys2Proof.Machine
end

