-- ==== Sys2Proof/Laws/Closed.lean ====
section
/-! SUPPORT. The shared operations in the closed forms of the statements: an equation for each, so that a proof about a
command rewrites with it and unfolds neither side. -/

namespace Sys2Proof.Machine

/-- The class table of R23 in the form of the statements. -/
theorem accepts_iff (v g : GasClass) : accepts v g = decide (v = g ∨ v = .mx) := by
  cases v <;> cases g <;> rfl

/-- The gas condition of R87 and R90 in the form of the statements. -/
theorem gasAllowed_eq (s : State) (g : GasClass) :
    s.gasAllowed g = decide (g = .hc ∨ g = .mx → s.permitOn = true ∧ s.interlock.estop = false) := by
  cases g <;> simp [State.gasAllowed, flammable, Bool.decide_and]

/-- What a bay can serve (R90). -/
theorem serves_eq_canServe (s : State) (b : BayIx) (e : WaitEntry) : s.serves b e = s.canServe b e := by
  unfold State.serves State.canServe State.bayAccepts
  cases (s.bay b).vessel with
  | none => rfl
  | some v => simp [accepts_iff, gasAllowed_eq]

/-- A grant scan is the serving of the oldest entry (R90, R91). -/
theorem scan_eq_oldestServed (s : State) (b : BayIx) : s.scan b = s.oldestServed b := by
  unfold State.scan State.oldestServed
  rw [show s.serves b = s.canServe b from funext (serves_eq_canServe s b)]
  cases s.waits.find? (s.canServe b) with
  | none => rfl
  | some e =>
    cases h : e.purpose <;>
      simp [State.entryServed, h, State.grant, State.feedPurpose, State.answerEntry, State.deliver, State.released] <;> rfl

/-- A settled net is taken and the bay's state set in either order (R26, R61). -/
theorem takeSettledNet_eq_netTaken (s : State) (b : BayIx) (net : Nat) :
    s.takeSettledNet b net = s.netTaken b (s.bay b).state net := by
  rfl

/-- A completed record in the form of the statements (R113, R130). -/
theorem complete_eq_done (bt : Batch) (p : Params) : bt.complete p = bt.done p := by
  unfold Batch.complete Batch.done Batch.perMille Batch.isLow Batch.isHigh Batch.perMille
  by_cases h : bt.cabinets = [] <;>
    simp [h, batchYield, batchGain, Batch.grams, yieldMarks, divRound]

/-- The shares are written to the cabinets' units as one fold over the unit records (R18). -/
theorem writeShares_eq (s : State) (cs : List Cabinet) :
    s.writeShares cs = s.setUnits (cs.foldl (fun us c => us.map (fun u =>
      if u.tag = c.tag then { u with state := .closed, foamShare := c.share } else u)) s.units) := by
  induction cs generalizing s with
  | nil => rfl
  | cons c rest ih => exact ih _

/-- The yield alarm of a completion in the form of the statements (R112). -/
theorem yieldAlarms_eq (s : State) (l : FoamLine) (bt : Batch) :
    s.yieldAlarms l bt.perMille =
      if bt.isLow s.params then s.alarm .yieldLow (some (lineNumber l))
      else if bt.isHigh s.params then s.alarm .yieldHigh (some (lineNumber l)) else s := by
  unfold State.yieldAlarms Batch.isLow Batch.isHigh
  cases bt.perMille <;> simp

/-- A completion is the closed form of the record, units and alarms, and then the release of the deferred FOAM_CLOSE
(R130). -/
theorem completeBatch_eq_batchDone (s : State) (l : FoamLine) (bt : Batch) (h : (s.line l).current = some bt) :
    s.completeBatch l = (s.batchDone l bt).releaseDeferred (nodeOfLine l) .foamClose bt.doneBody := by
  have hy : (bt.done s.params).yield = bt.perMille := rfl
  have hb : (bt.done s.params).completionBody = bt.doneBody := by
    simp [Batch.completionBody, Batch.done, Batch.doneBody, splitShares]
  simp only [State.completeBatch, h, complete_eq_done, writeShares_eq, hy, hb, yieldAlarms_eq]
  unfold State.batchDone
  cases hl : bt.isLow s.params <;> cases hh : bt.isHigh s.params <;> simp [hl, hh] <;> rfl

/-! ## Segments, deadlines and digest sections -/

/-- The end of a batch's feed and its booking by estimate, together, in the form of the statements (R81, R107, R122). -/
theorem bookSegment_endSegment (bt : Batch) (k : Nat) (c : EndCause) (gain : Nat) :
    (bt.endSegment k c).bookSegment k (estimatedGain gain) = bt.segmentLost k c gain := rfl

/-- A booking by weight or estimate in the form of the statements (R107, R116). -/
theorem bookSegment_eq (bt : Batch) (k : Nat) (g : GainResult) :
    bt.bookSegment k g = bt.segmentBooked k g.gain g.estimated g.unstable := rfl

/-- A deadline has passed where there is one and it is not ahead. -/
theorem passed_eq_any (s : State) (d : Option Nat) : s.passed d = d.any (fun d => decide (d ≤ s.now)) := by
  cases d <;> rfl

/-- The commands that are due among a list: those whose condition holds, in the list's order (log 3). -/
theorem flatMap_dueIf {α : Type} (xs : List α) (p : α → Bool) (c : α → Instr) :
    xs.flatMap (fun x => dueIf (p x) (c x)) = (xs.filter p).map c := by
  induction xs with
  | nil => rfl
  | cons x rest ih => cases h : p x <;> simp [dueIf, h, List.flatMap_cons] <;> simpa [dueIf] using ih

/-- The PLI's hold of the claim pair stays where its end is ahead (R157). -/
theorem dropClaim_eq (s : State) :
    s.dropClaim = s.setPli { s.pli with claimHold := s.pli.claimHold.filter (fun d => decide (s.now < d)) } := by
  have same (h : Option Nat) (e : s.pli.claimHold = h) : s = s.setPli { s.pli with claimHold := h } := by
    subst e; rfl
  unfold State.dropClaim
  cases h : s.pli.claimHold with
  | none => simpa [State.passed, Option.filter] using same none h
  | some d =>
    by_cases hd : d ≤ s.now
    · simp [State.passed, hd, Option.filter, Nat.not_lt.mpr hd]
    · simpa [State.passed, hd, Option.filter, Nat.lt_of_not_le hd] using same (some d) h

/-- How many items a REPLY carries, in the form of the statements (R175). -/
theorem digestCount_eq_digestTaken (r : NodeRec) (head : Nat) :
    digestCount r.digest (r.replyLimit - head) = r.digestTaken head := rfl

/-- Which items a REPLY carries, in the form of the statements (R175). -/
theorem digestPick_eq_digestFrom (r : NodeRec) (start k : Nat) : digestPick r.digest start k = r.digestFrom start k := rfl

/-- A yes-or-no field as the byte of a number. -/
theorem yesNo_eq (b : Bool) : yesNo b = [BitVec.ofNat 8 (if b then 1 else 0)] := by cases b <;> rfl

/-- An optional figure of four bytes as the bytes of a number. -/
theorem optOnes_four (v : Option Nat) : optOnes 4 v = beBytes 4 (v.getD 0xFFFFFFFF) := by cases v <;> rfl

/-- What the model sends for a digest item shows it: every byte R164 names reads as the state stands (R164). -/
theorem digestValue_shown (s : State) (item : Nat × Nat) : s.digestShown item (s.digestValue item) = true := by
  unfold State.digestShown State.digestValue State.digestNamed
  split <;> rename_i h <;>
    simp_all [beBytes, yesNo_eq, optOnes_four, namedByte, namedWord, namedFlag, slotStateCode,
      show List.finRange 4 = [0, 1, 2, 3] from rfl]

end Sys2Proof.Machine
end

