-- ==== Sys2Proof/Laws/Ops.lean ====
section
/-! SUPPORT. What each shared operation can do, said once: what it leaves as it is, and what it writes. -/

namespace Sys2Proof.Machine

/-! ## The frame of the shared operations -/

/-- What no shared operation below changes: the clock, the queue, the inputs and their items, the store, the settings and
the model's own fields. -/
def SameBase (s t : State) : Prop :=
  t.now = s.now ∧ t.pending = s.pending ∧ t.inReset = s.inReset ∧ t.switches = s.switches ∧ t.store = s.store ∧
    t.interlock = s.interlock ∧ t.params = s.params ∧ t.batches.expect = s.batches.expect ∧
    t.lastReply = s.lastReply ∧ t.freeCount = s.freeCount

theorem SameBase.refl (s : State) : SameBase s s := ⟨rfl, rfl, rfl, rfl, rfl, rfl, rfl, rfl, rfl, rfl⟩

theorem SameBase.trans {s t u : State} (h : SameBase s t) (k : SameBase t u) : SameBase s u := by
  obtain ⟨h1, h2, h3, h4, h5, h6, h7, h8, h9, h10⟩ := h
  obtain ⟨k1, k2, k3, k4, k5, k6, k7, k8, k9, k10⟩ := k
  exact ⟨k1.trans h1, k2.trans h2, k3.trans h3, k4.trans h4, k5.trans h5, k6.trans h6, k7.trans h7, k8.trans h8,
    k9.trans h9, k10.trans h10⟩

/-- A fold of steps that each keep the frame keeps it. -/
theorem SameBase.foldl {α : Type} (f : State → α → State) (h : ∀ t x, SameBase t (f t x)) (xs : List α) (s : State) :
    SameBase s (xs.foldl f s) := by
  induction xs generalizing s with
  | nil => exact SameBase.refl s
  | cons x xs ih => exact (h s x).trans (ih (f s x))

theorem setBay_base (s : State) (b : BayIx) (r : Bay) : SameBase s (s.setBay b r) := by simp [SameBase]
theorem setChannel_base (s : State) (b : BayIx) (r : Channel) : SameBase s (s.setChannel b r) := by simp [SameBase]
theorem setFeed_base (s : State) (b : BayIx) (r : Option Feed) : SameBase s (s.setFeed b r) := by simp [SameBase]
theorem setValve_base (s : State) (b : BayIx) (r : Bool) : SameBase s (s.setValve b r) := by simp [SameBase]
theorem setNode_base (s : State) (n : Node) (r : NodeRec) : SameBase s (s.setNode n r) := by simp [SameBase]
theorem setLine_base (s : State) (l : FoamLine) (r : LineRec) : SameBase s (s.setLine l r) := by simp [SameBase]
theorem setWaits_base (s : State) (ws : List WaitEntry) : SameBase s (s.setWaits ws) := by simp [SameBase]
theorem setUnits_base (s : State) (us : List UnitRec) : SameBase s (s.setUnits us) := by simp [SameBase]
theorem setPli_base (s : State) (p : Pli) : SameBase s (s.setPli p) := by simp [SameBase]
theorem alarm_base (s : State) (k : AlarmKind) (x : Option Nat) (v : Int) : SameBase s (s.alarm k x v) := by simp [SameBase]

/-! ## Records -/

theorem modUnit_spec (s : State) (tag : Nat) (f : UnitRec → UnitRec) :
    s.modUnit tag f = s.setUnits (s.units.map (fun u => if u.tag = tag then f u else u)) := rfl

theorem modCurrent_spec (s : State) (l : FoamLine) (f : Batch → Batch) :
    s.modCurrent l f = s.setLine l { s.line l with current := (s.line l).current.map f } := rfl

theorem modOutcome_spec (s : State) (n : Node) (f : FeedOutcome → FeedOutcome) :
    s.modOutcome n f = s.setNode n { s.node n with outcome := (s.node n).outcome.map f } := rfl

theorem dropEntry_spec (s : State) (n : Node) :
    s.dropEntry n = s.setWaits (s.waits.filter (fun e => e.node != n)) := rfl

theorem setSlot_spec (s : State) (n : Node) (x : Slot) : s.setSlot n x = s.setNode n { s.node n with slot := x } := rfl

theorem modUnit_base (s : State) (tag : Nat) (f : UnitRec → UnitRec) : SameBase s (s.modUnit tag f) := setUnits_base s _
theorem modCurrent_base (s : State) (l : FoamLine) (f : Batch → Batch) : SameBase s (s.modCurrent l f) := setLine_base s l _
theorem modOutcome_base (s : State) (n : Node) (f : FeedOutcome → FeedOutcome) : SameBase s (s.modOutcome n f) :=
  setNode_base s n _
theorem dropEntry_base (s : State) (n : Node) : SameBase s (s.dropEntry n) := setWaits_base s _
theorem setSlot_base (s : State) (n : Node) (x : Slot) : SameBase s (s.setSlot n x) := setNode_base s n _

/-- The tags of the units stand where a rewriting keeps each tag. -/
theorem modUnit_tags (s : State) (tag : Nat) (f : UnitRec → UnitRec) (h : ∀ u, (f u).tag = u.tag) :
    (s.modUnit tag f).units.map (·.tag) = s.units.map (·.tag) := by
  simp only [modUnit_spec, State.setUnits_units, List.map_map]
  apply List.map_congr_left
  intro u _
  by_cases e : u.tag = tag <;> simp [e, h]

/-! ## Slots and windows -/

/-- A slot becomes DELIVERABLE, and its node joins the delivery list at the tail (R153, R169). -/
theorem deliver_spec (s : State) (n : Node) (r : SlotReply) :
    s.deliver n r = (s.setNode n { s.node n with slot := .deliverable r }).setPli { s.pli with
      delivery := s.pli.delivery ++ [n] } := rfl

theorem deliver_base (s : State) (n : Node) (r : SlotReply) : SameBase s (s.deliver n r) := by
  simp [deliver_spec, SameBase]

/-- A deferred reply is released exactly where the slot is DEFERRED for a request of that kind (R80, R130). -/
theorem releaseDeferred_cases (s : State) (n : Node) (k : ReqKind) (b : Body) :
    (∃ tag, (s.node n).slot = .deferred tag k ∧
        s.releaseDeferred n k b = s.deliver n { tag := tag, kind := k, status := .ok, body := b }) ∨
      ((∀ tag, (s.node n).slot ≠ .deferred tag k) ∧ s.releaseDeferred n k b = s) := by
  cases h : (s.node n).slot with
  | deferred tag k' =>
    by_cases e : k' = k
    · subst e; exact .inl ⟨tag, rfl, by simp [State.releaseDeferred, h]⟩
    · exact .inr ⟨by simp [e], by simp [State.releaseDeferred, h, e]⟩
  | empty => exact .inr ⟨by simp, by simp [State.releaseDeferred, h]⟩
  | deliverable r => exact .inr ⟨by simp, by simp [State.releaseDeferred, h]⟩
  | held r => exact .inr ⟨by simp, by simp [State.releaseDeferred, h]⟩

theorem releaseDeferred_base (s : State) (n : Node) (k : ReqKind) (b : Body) : SameBase s (s.releaseDeferred n k b) := by
  obtain ⟨tag, -, h⟩ | ⟨-, h⟩ := releaseDeferred_cases s n k b
  · rw [h]; exact deliver_base s n _
  · rw [h]; exact SameBase.refl s

theorem answerEntry_spec (s : State) (e : WaitEntry) (st : Status) (b : Body) :
    s.answerEntry e st b = s.deliver e.node { tag := e.tag, kind := e.kind, status := st, body := b } := rfl

theorem openWindow_spec (s : State) (b : BayIx) (p : WindowPurpose) :
    s.openWindow b p = s.setChannel b { s.channel b with window := some (Window.opened p s.now s.params.settleTime) } :=
  rfl

theorem openWindow_base (s : State) (b : BayIx) (p : WindowPurpose) : SameBase s (s.openWindow b p) := setChannel_base s b _

/-- A bay enters service: SETTLING with a BASELINE window where its channel is OK, HOLD otherwise (R27, R32, R34). -/
theorem enterService_cases (s : State) (b : BayIx) :
    ((s.channel b).state = .ok ∧
        s.enterService b = (s.setBay b { s.bay b with state := .settling }).openWindow b .baseline) ∨
      ((s.channel b).state ≠ .ok ∧ s.enterService b = s.setBay b { s.bay b with state := .hold }) := by
  by_cases h : (s.channel b).state = .ok
  · exact .inl ⟨h, by simp [State.enterService, h]⟩
  · exact .inr ⟨h, by simp [State.enterService, h]⟩

theorem enterService_base (s : State) (b : BayIx) : SameBase s (s.enterService b) := by
  obtain ⟨-, h⟩ | ⟨-, h⟩ := enterService_cases s b
  · rw [h]; exact (setBay_base s b _).trans (openWindow_base _ b _)
  · rw [h]; exact setBay_base s b _

/-! ## Taking a request (R146, R151, R167) -/

/-- Outside reset a command acts; under reset it changes nothing (R146). -/
theorem live_spec (act : State → State) (s : State) : live act s = .next (if s.inReset then s else act s) := by
  by_cases h : s.inReset = true <;> simp [live, h]

theorem live_running (act : State → State) (s : State) (h : s.inReset = false) : live act s = .next (act s) := by
  simp [live, h]

/-- A permitted request answers what its owner answers (R167). -/
theorem take_permitted (n : Node) (tag : Nat) (k : ReqKind) (act : State → Taken) (s : State)
    (h : permitted k (roleOf n) = true) :
    take n tag k act s = (act s).state.replied n tag k (act s).status (act s).body := by simp [take, h]

/-- A request the role may not use is answered NOT_PERMITTED and changes nothing else (R167). -/
theorem take_denied (n : Node) (tag : Nat) (k : ReqKind) (act : State → Taken) (s : State)
    (h : permitted k (roleOf n) = false) :
    take n tag k act s = s.replied n tag k .notPermitted .none := by simp [take, h, refuse]

/-! ## Grants (R67, R88-R92) -/

/-- What a grant writes: the feed, the bay, the valve, the outcome field, and a batch's segment (R67, R121). -/
theorem grant_spec (s : State) (b : BayIx) (n : Node) (w : WaitPurpose) (g : GasClass) :
    s.grant b n w g = match w with
      | .unit tag => s.granted b n (.unit tag) g
      | .batch l number =>
        (s.granted b n (s.feedPurpose (.batch l number)) g).modCurrent l (·.openSegment b) := by
  cases w <;> simp [State.grant, State.createFeed, State.granted, State.feedPurpose, State.newFeed]

theorem granted_base (s : State) (b : BayIx) (n : Node) (p : FeedPurpose) (g : GasClass) : SameBase s (s.granted b n p g) := by
  simp [State.granted, SameBase]

theorem grant_base (s : State) (b : BayIx) (n : Node) (w : WaitPurpose) (g : GasClass) : SameBase s (s.grant b n w g) := by
  rw [grant_spec]
  cases w with
  | unit tag => exact granted_base s b n _ g
  | batch l number => exact (granted_base s b n _ g).trans (modCurrent_base _ l _)

/-- A scan serves the oldest entry it can, or nothing changes (R90, R91). -/
theorem scan_cases (s : State) (b : BayIx) :
    (s.waits.find? (s.serves b) = none ∧ s.scan b = s) ∨
      ∃ e, s.waits.find? (s.serves b) = some e ∧
        s.scan b = ((s.dropEntry e.node).grant b e.node e.purpose e.cls).answerEntry e .ok (s.grantBody b) := by
  cases h : s.waits.find? (s.serves b) with
  | none => exact .inl ⟨rfl, by simp [State.scan, h]⟩
  | some e => exact .inr ⟨e, rfl, by simp [State.scan, h]⟩

theorem scan_base (s : State) (b : BayIx) : SameBase s (s.scan b) := by
  obtain ⟨-, h⟩ | ⟨e, -, h⟩ := scan_cases s b
  · rw [h]; exact SameBase.refl s
  · rw [h, answerEntry_spec]
    exact ((dropEntry_base s e.node).trans (grant_base _ b e.node e.purpose e.cls)).trans (deliver_base _ _ _)

/-- READY with the scan where the reserve is there, FULL with VESSEL_FULL counted where it is not (R26, R30). -/
theorem readyOrFull_cases (s : State) (b : BayIx) :
    (s.hasReserve b = true ∧ s.readyOrFull b = (s.setBay b { s.bay b with state := .ready }).scan b) ∨
      (s.hasReserve b = false ∧
        s.readyOrFull b = (s.setBay b { s.bay b with state := .full }).alarm .vesselFull (some b.val)) := by
  cases h : s.hasReserve b with
  | true => exact .inl ⟨rfl, by simp [State.readyOrFull, h]⟩
  | false => exact .inr ⟨rfl, by simp [State.readyOrFull, h]⟩

theorem readyOrFull_base (s : State) (b : BayIx) : SameBase s (s.readyOrFull b) := by
  obtain ⟨-, h⟩ | ⟨-, h⟩ := readyOrFull_cases s b
  · rw [h]; exact (setBay_base s b _).trans (scan_base _ b)
  · rw [h]; exact (setBay_base s b _).trans (alarm_base _ _ _ _)

/-- An entry leaves without a grant (R92, R94, R96, R121). -/
theorem endEntry_spec (s : State) (e : WaitEntry) (st : Status) :
    s.endEntry e st = (s.removed e st).stallWaiting e.purpose := rfl

theorem stallWaiting_base (s : State) (w : WaitPurpose) : SameBase s (s.stallWaiting w) := by
  cases w with
  | unit tag => exact SameBase.refl s
  | batch l number => exact modCurrent_base s l _

theorem endEntry_base (s : State) (e : WaitEntry) (st : Status) : SameBase s (s.endEntry e st) := by
  rw [endEntry_spec]
  refine SameBase.trans ?_ (stallWaiting_base _ _)
  simp [State.removed, SameBase]

theorem purge_base (s : State) (which : WaitEntry → Bool) (st : Status) : SameBase s (s.purge which st) := by
  apply SameBase.foldl
  intro t n
  cases t.entry n with
  | none => exact SameBase.refl t
  | some e =>
    by_cases h : which e = true
    · simpa [h] using endEntry_base t e st
    · simpa [h] using SameBase.refl t

/-! ## Bookings and completions (R10, R18, R59, R80, R81, R103, R130) -/

theorem writeShares_base (s : State) (cs : List Cabinet) : SameBase s (s.writeShares cs) := by
  unfold State.writeShares
  exact SameBase.foldl _ (fun t c => modUnit_base t c.tag _) cs s

theorem yieldAlarms_base (s : State) (l : FoamLine) (y : Option Nat) : SameBase s (s.yieldAlarms l y) := by
  unfold State.yieldAlarms
  split
  · exact SameBase.refl s
  · split
    · exact alarm_base s _ _ _
    · split
      · exact alarm_base s _ _ _
      · exact SameBase.refl s

/-- A line without a current batch completes nothing; a current batch moves to the previous slot completed (R130). -/
theorem completeBatch_cases (s : State) (l : FoamLine) :
    ((s.line l).current = none ∧ s.completeBatch l = s) ∨
      ∃ bt, (s.line l).current = some bt ∧
        s.completeBatch l =
          (((s.writeShares (bt.complete s.params).cabinets).yieldAlarms l (bt.complete s.params).yield).setLine l
            { ((s.writeShares (bt.complete s.params).cabinets).yieldAlarms l (bt.complete s.params).yield).line l with
              current := none, previous := some (bt.complete s.params) }).releaseDeferred (nodeOfLine l) .foamClose
            (bt.complete s.params).completionBody := by
  cases h : (s.line l).current with
  | none => exact .inl ⟨rfl, by simp [State.completeBatch, h]⟩
  | some bt => exact .inr ⟨bt, rfl, by simp [State.completeBatch, h]⟩

theorem completeBatch_base (s : State) (l : FoamLine) : SameBase s (s.completeBatch l) := by
  obtain ⟨-, h⟩ | ⟨bt, -, h⟩ := completeBatch_cases s l
  · rw [h]; exact SameBase.refl s
  · rw [h]
    exact (((writeShares_base s _).trans (yieldAlarms_base _ l _)).trans (setLine_base _ l _)).trans
      (releaseDeferred_base _ _ _ _)

theorem bookToBatch_base (s : State) (l : FoamLine) (number k : Nat) (g : GainResult) :
    SameBase s (s.bookToBatch l number k g) := by
  unfold State.bookToBatch
  split
  · exact SameBase.refl s
  · split
    · dsimp only
      split
      · exact (modCurrent_base s l _).trans (completeBatch_base _ l)
      · exact modCurrent_base s l _
    · exact SameBase.refl s

theorem bookToRecord_base (s : State) (p : FeedPurpose) (g : GainResult) : SameBase s (s.bookToRecord p g) := by
  cases p with
  | unit tag => exact modUnit_base s tag _
  | batch l number k => exact bookToBatch_base s l number k g

theorem bookGain_base (s : State) (b : BayIx) (f : Feed) (g : GainResult) : SameBase s (s.bookGain b f g) := by
  have h : SameBase s (((s.bookToRecord f.purpose g).setFeed b (some { f with booked := true })).modOutcome f.owner
      (fun o => { o with settled := true, gain := some g.gain, estimated := g.estimated })) :=
    ((bookToRecord_base s f.purpose g).trans (setFeed_base _ b _)).trans (modOutcome_base _ _ _)
  unfold State.bookGain
  dsimp only
  split
  · exact h.trans (releaseDeferred_base _ _ _ _)
  · exact h

/-- A feed that is not booked is booked by its estimate; a booked one, or none, is left alone (R81, R82). -/
theorem bookByEstimate_cases (s : State) (b : BayIx) :
    ((∀ f ∈ s.feed b, f.booked = true) ∧ s.bookByEstimate b = s) ∨
      ∃ f, s.feed b = some f ∧ f.booked = false ∧
        s.bookByEstimate b =
          (s.setBay b { s.bay b with net := f.bookFigure, book := f.bookFigure, source := .estimated }).bookGain b
            { f with weightKept := false } (estimatedGain f.estimate) := by
  cases h : s.feed b with
  | none => exact .inl ⟨by simp, by simp [State.bookByEstimate, h]⟩
  | some f =>
    cases e : f.booked with
    | true => exact .inl ⟨by simp [e], by simp [State.bookByEstimate, h, e]⟩
    | false => exact .inr ⟨f, rfl, e, by simp [State.bookByEstimate, h, e]⟩

theorem bookByEstimate_base (s : State) (b : BayIx) : SameBase s (s.bookByEstimate b) := by
  obtain ⟨-, h⟩ | ⟨f, -, -, h⟩ := bookByEstimate_cases s b
  · rw [h]; exact SameBase.refl s
  · rw [h]; exact (setBay_base s b _).trans (bookGain_base _ b _ _)

theorem leaveClosing_cases (s : State) (b : BayIx) :
    s.leaveClosing b = s ∨
      ((∃ f, s.feed b = some f ∧ f.booked = true) ∧ (s.bay b).state = .closing ∧ (s.bay b).closeWatch = none ∧
        s.leaveClosing b = (s.setFeed b none).enterService b) := by
  unfold State.leaveClosing
  split
  · exact .inl rfl
  · rename_i f hf
    split
    · rename_i h; exact .inr ⟨⟨f, hf, h.1⟩, h.2.1, h.2.2, rfl⟩
    · exact .inl rfl

theorem leaveClosing_base (s : State) (b : BayIx) : SameBase s (s.leaveClosing b) := by
  obtain h | ⟨-, -, -, h⟩ := leaveClosing_cases s b
  · rw [h]; exact SameBase.refl s
  · rw [h]; exact (setFeed_base s b none).trans (enterService_base _ b)

theorem takeSettledNet_base (s : State) (b : BayIx) (net : Nat) : SameBase s (s.takeSettledNet b net) := by
  unfold State.takeSettledNet
  dsimp only
  split
  · exact (setBay_base s b _).trans (alarm_base _ _ _ _)
  · exact setBay_base s b _

theorem deliverBaseline_base (s : State) (b : BayIx) (gross : Nat) : SameBase s (s.deliverBaseline b gross) := by
  unfold State.deliverBaseline
  split
  · exact (takeSettledNet_base s b _).trans (readyOrFull_base _ b)
  · exact SameBase.refl s

theorem deliverFeedEnd_base (s : State) (b : BayIx) (gross : Nat) (unstable : Bool) :
    SameBase s (s.deliverFeedEnd b gross unstable) := by
  unfold State.deliverFeedEnd
  split
  · exact SameBase.refl s
  · split
    · exact SameBase.refl s
    · dsimp only
      refine SameBase.trans ?_ (readyOrFull_base _ b)
      refine SameBase.trans ?_ (setFeed_base _ b none)
      refine SameBase.trans ?_ (bookGain_base _ b _ _)
      split
      · exact (takeSettledNet_base s b _).trans (alarm_base _ _ _ _)
      · exact takeSettledNet_base s b _

/-! ## The end of a feed (R74) -/

theorem endAlarm_base (s : State) (n : Node) (c : EndCause) : SameBase s (s.endAlarm n c) := by
  cases c <;> exact SameBase.refl s

theorem endOfSegment_base (s : State) (p : FeedPurpose) (c : EndCause) : SameBase s (s.endOfSegment p c) := by
  cases p with
  | unit tag => exact SameBase.refl s
  | batch l number k => exact modCurrent_base s l _

/-- The close command: the valve is closed, the bay CLOSING, and the watch runs unless the switch reads closed (R28). -/
theorem closeBay_spec (s : State) (b : BayIx) :
    s.closeBay b = (s.setValve b false).setBay b { s.bay b with
      state := .closing, closeWatch := if s.switch b then none else some (s.now + 2000) } := rfl

theorem closeBay_base (s : State) (b : BayIx) : SameBase s (s.closeBay b) :=
  (setValve_base s b false).trans (setBay_base _ b _)

/-- A feed that is not in FEEDING is not ended (R76). -/
theorem endFeed_idle (s : State) (b : BayIx) (c : EndCause) (h : ∀ f ∈ s.feed b, f.state ≠ .feeding) :
    s.endFeed b c = s := by
  unfold State.endFeed
  split
  · rfl
  · rename_i f hf; simp [h f hf]

theorem endFeed_base (s : State) (b : BayIx) (c : EndCause) : SameBase s (s.endFeed b c) := by
  unfold State.endFeed
  split
  · exact SameBase.refl s
  · rename_i f hf
    split
    · have h : SameBase s (((((s.setFeed b (some (f.ended c))).closeBay b).modOutcome f.owner
          (fun o => { o with endCause := some c, settled := false })).endAlarm f.owner c).endOfSegment f.purpose c) :=
        ((((setFeed_base s b _).trans (closeBay_base _ b)).trans (modOutcome_base _ _ _)).trans
          (endAlarm_base _ _ c)).trans (endOfSegment_base _ _ c)
      dsimp only
      split
      · split
        · exact h.trans (openWindow_base _ b _)
        · exact h
      · exact (h.trans (bookByEstimate_base _ b)).trans (leaveClosing_base _ b)
    · exact SameBase.refl s

theorem endFeeds_base (s : State) (which : GasClass → Bool) (c : EndCause) : SameBase s (s.endFeeds which c) := by
  apply SameBase.foldl
  intro t n
  cases t.ownedFeed n with
  | none => exact SameBase.refl t
  | some p =>
    obtain ⟨b, f⟩ := p
    by_cases h : which f.cls = true
    · simpa [h] using endFeed_base t b c
    · simpa [h] using SameBase.refl t

end Sys2Proof.Machine
end

