-- ==== Sys2Proof/Tests/Slice0.lean ====
section
/-! SUPPORT. The model's own tests: ill-formed commands refused, the spec's worked examples, and for every statement a
witness that its hypotheses can be met, clause by clause. -/

namespace Sys2Proof.Tests

open Sys2Proof Sys2Proof.Machine

-- One theorem at a time: each waits for the kernel, and many that wait at once need a thread each.
set_option Elab.async false

/-! ## WellFormed refuses -/

theorem test_wf_tag : (Instr.feedOpen 0 256).wf = false := by decide
theorem test_wf_argument : (Instr.feedProgress 0 1 65536).wf = false := by decide
theorem test_wf_line_and_slot : (Instr.batchQuery 0 1 256 0).wf = false := by decide
theorem test_wf_unit : (Instr.unitQuery 0 1 4294967296).wf = false := by decide
theorem test_wf_mount_class : (Instr.vesselMount 10 1 0 1 256 50 1000).wf = false := by decide
theorem test_wf_zero : (Instr.calibrate 10 1 0 16777215 1).wf = false := by decide
theorem test_wf_capture_scale : (Instr.calibrateZeroCapture 10 1 0 65536).wf = false := by decide
theorem test_wf_digest_index : (Instr.setDigest 0 1 [(1, 256)]).wf = false := by decide
theorem test_wf_request_frame : (Instr.requestFrameReceived [1, 0x30, 0, 0, 0, 0xA4]).wf = false := by
  decide +kernel
theorem test_wf_turn_frame : (Instr.turn [1, 0x30, 0, 0, 0, 0xA4]).wf = false := by decide +kernel
theorem test_wf_contender : (Instr.arbitration [0]).wf = false := by decide
theorem test_wf_sample : (Instr.sample 0 (.code 16777216)).wf = false := by decide

/-! ## Worked examples of the spec -/

/-- R159, the example: SELECT from station 3 has byte 5 0xA4, and a flip of data bit 12 is corrected. -/
theorem test_header_check :
    ctrlBytes 2 .select = [0x01, 0x30, 0, 0, 0, 0xA4] ∧
      decodeHeader 0x0138000000 0xA4 = .corrected 0x0130000000 ∧ decodeHeader 0x0130000000 0xA5 = .corrected 0x0130000000 ∧
        decodeHeader 0x013C000000 0xA4 = .bad := by decide +kernel

/-- R160: the CRC of the nine bytes 0x31 to 0x39. -/
theorem test_crc : crc16 [0x31, 0x32, 0x33, 0x34, 0x35, 0x36, 0x37, 0x38, 0x39] = 0x29B1 := by decide +kernel

/-- R148, the example: stations 4 and 7, and then the PLI as well. -/
theorem test_arbitration : arbitrate [4, 7] = some 4 ∧ arbitrate [0, 4, 7] = some 0 := by decide

/-- R50, the example table. -/
theorem test_gross :
    grossOf 9437184 524288 4096 = (557056, false) ∧ grossOf 524300 524288 4096 = (1, false) ∧
      grossOf 524296 524288 4096 = (1, false) ∧ grossOf 524312 524288 4096 = (2, false) ∧
        grossOf 524000 524288 4096 = (0, true) ∧ grossOf 16000000 0 65535 = (1000000, false) := by decide +kernel

/-- R55, the example of a FEED_END settle: mean 31,552 and spread 6; R100: a gain of 652 g. -/
theorem test_settle :
    mean8 [31549, 31555, 31550, 31552, 31554, 31551, 31553, 31552] = 31552 ∧
      spread [31549, 31555, 31550, 31552, 31554, 31551, 31553, 31552] = 6 ∧
        (weighedGain 12400 (31552 - 18500) false).gain = 652 := by decide +kernel

/-- R23, the examples of max fill. -/
theorem test_max_fill :
    4000 * fillDensity .hc = 168000 ∧ 1200 * fillDensity .cl = 138000 ∧ 600 * fillDensity .fl = 60000 ∧
      5000 * fillDensity .mx = 210000 := by decide

/-- R105, the examples of recovery ratios. -/
theorem test_ratio : recoveryRatio 652 700 = 931 ∧ recoveryRatio 45 120 = 375 ∧ recoveryRatio 3 2000 = 2 := by decide

/-- R108, the two examples, and the mixed foam batch of 6.9. -/
theorem test_split :
    splitShares 1003 [280, 410, 310] = [281, 411, 311] ∧ splitShares 10 [300, 300, 300] = [4, 3, 3] ∧
      splitShares 2462 [400, 520, 220, 400, 700] = [440, 571, 242, 440, 769] ∧
        batchYield 2462 [400, 520, 220, 400, 700] = some 1099 := by decide +kernel

/-- The table of 6.10. -/
theorem test_split_limits :
    splitShares 0 [400, 300] = [0, 0] ∧ splitShares 5000 [120] = [5000] ∧ batchYield 5000 [120] = some 2000 ∧
      splitShares 699 [500, 500] = [350, 349] ∧ batchYield 699 [500, 500] = some 699 ∧ batchYield 380 [] = none := by
  decide +kernel

/-- R178, the examples of SET_PARAM. -/
theorem test_clamp : clamp 5 120 3 = 5 ∧ clamp 100 20000 25000 = 20000 ∧ clamp 1000 2000 900 = 1000 := by decide

/-- R175, the example of 10.7: how many items of ten fit in each space. -/
theorem test_digest_count :
    digestCount (List.replicate 10 (5, 0)) 54 = 8 ∧ digestCount (List.replicate 10 (5, 0)) 59 = 9 ∧
      digestCount (List.replicate 10 (5, 0)) 18 = 2 := by decide

/-! ## Small states -/

/-- Stations 1 and 2, foam line 1, and a supervisory node. -/
abbrev station : Node := 0
abbrev other : Node := 1
abbrev foam : Node := 8
abbrev head : Node := 10

/-- A CL vessel of 200 dL: max fill 23,000 g. -/
def vessel : Vessel := { id := 7, cls := .cl, capacity := 200, tare := 2000 }
def okChannel : Channel := { Channel.initial with state := .ok, validRun := 10 }
def bayIn (st : BayState) : Bay := { Bay.initial with state := st, vessel := some vessel, source := .settled, scale := 32768 }

/-- Bay 0 in a state with the vessel above, its channel OK. -/
def plant (st : BayState) : State := (State.reset.setBay 0 (bayIn st)).setChannel 0 okChannel

def unit (st : UnitState) (at? : Option Node) : UnitRec :=
  { tag := 1, state := st, category := .b, declRefr := some .cl, declCharge := some 100, declFoam := some .fl,
    identRefr := some .cl, station := at?, recovered := 0, feedCount := 0, estimated := false, abortCount := 0,
    outcome := none, ratio := none, marks := { }, identFoam := none, batch := none, foamWeight := none,
    foamShare := none }

/-- The unit bound to station 1, with bay 0 in a state. -/
def bound (st : BayState) : State := (plant st).setUnits [unit .degassing (some station)]

/-- A feed of station 1 on bay 0, running since the reset. -/
def fed : State := (bound .ready).granted 0 station (.unit 1) .cl

/-- The same with the channel lost. -/
def fedOut : State := fed.setChannel 0 { okChannel with state := .lost, validRun := 0 }

/-- A foam batch of line 1 in a state with some segments. -/
def batch (st : BatchState) (segs : List Segment) : Batch :=
  { line := 0, number := 1, cls := .cl, state := st, cabinets := [], segments := segs, total := none, unassigned := none,
    yield := none, marks := { } }
def segment (done : Bool) : Segment :=
  { bay := 0, endCause := none, settled := done, gain := none, estimated := false }
def withBatch (s : State) (bt : Batch) : State := s.setLine 0 { current := some bt, previous := none, lastNumber := 1 }

/-- A feed of foam line 1 on bay 0. -/
def foamFed : State := (withBatch (plant .ready) (batch .opened [segment false])).granted 0 foam (.batch 0 1 1) .cl

/-- The channel of bay 0 out. -/
def out (s : State) : State := s.setChannel 0 { okChannel with state := .lost, validRun := 0 }

/-- A waiting entry of a node. -/
def entryOf (n : Node) (p : WaitPurpose) : WaitEntry :=
  { node := n, tag := 3, kind := .feedOpen, cls := .cl, purpose := p, deadline := 10 }
def waitingFor (s : State) (n : Node) (p : WaitPurpose) : State :=
  (s.setWaits [entryOf n p]).setSlot n (.deferred 3 .feedOpen)

/-- A reply in a slot. -/
def answer : SlotReply := { tag := 3, kind := .feedOpen, status := .waitExpired, body := .none }

/-- The status of the answer that a command leaves. -/
def statusOf (c : Instr) (s : State) : Option Status :=
  match exec c s with
  | .next t => t.lastReply.map (·.status)
  | _ => none

/-- A connection of station 1. -/
def conn (k : ConnKind) (t : Side) : Conn :=
  { kind := k, partner := station, turn := t, bursts := 0, deadline := if t = .partner then some 50 else none }
def onLine (p : Pli) : State := State.reset.setPli p
def connected (t : Side) : Pli := { line := .connected, conn := some (conn .master t) }

/-- A frame of station 1. -/
def sent (k : CtrlKind) : RawFrame := ctrlBytes station k

/-- A window of seven samples of 5,000 g, one short of a set. -/
def window (p : WindowPurpose) : Window :=
  { purpose := p, phase := .average, settleDeadline := none, setNo := 1, band := some 20,
    samples := List.replicate 7 5000 }
def weighing (st : BayState) (p : WindowPurpose) (s : State) : State :=
  (s.setBay 0 { s.bay 0 with state := st }).setChannel 0 { okChannel with window := some (window p) }

/-- A feed of station 1 on bay 0 that has ended and waits for its reading. -/
def closing : State :=
  (fed.setFeed 0 ((fed.feed 0).map (fun f => { f with
    state := .closing, endCause := some .closed, holdDeadline := none }))).setBay 0 { fed.bay 0 with state := .closing }

/-! ## Witnesses: the machine, units and queries -/

theorem witness_TimePassesOnEmptyQueue :
    State.reset.pending = [] ∧ State.reset.inReset = false ∧ (assertReset State.reset).pending = [] ∧
      (assertReset State.reset).inReset = true := by decide +kernel

/-- R39, R72, R148, R156: at 20,000 ms the hold deadline, the turn, a write at its latest moment; and the PLI's own
arbitration. -/
theorem test_due :
    (match step { fed with now := 19999, pli := connected .partner, store := { fed.store with op := .writing 0 .cleared 30 } } with
      | .next t => t.pending
      | _ => []) = [.holdDeadline 0 20000, .turnTimeout 20000, .storeWriteEnd] ∧
    (match step (onLine { delivery := [station] }) with
      | .next t => t.pending
      | _ => []) = [.arbitration []] := by decide +kernel

theorem witness_NoCommandStops : (assertReset State.reset).inReset = true ∧ isInput .reportSent = false := by
  decide +kernel

theorem witness_NotPermittedChangesNothing :
    (plant .ready).inReset = false ∧
      (frameOf (.feedOpen head 1)).any (fun p => !permitted p.2.kind (roleOf p.1)) = true := by decide +kernel

/-- 95 records, and 96. -/
def crowd (k : Nat) : State := State.reset.setUnits (List.replicate k (unit .announced none))

theorem witness_AnnounceCreatesUnit :
    (bound .ready).inReset = false ∧ roleOf head = .supervisory ∧ ¬ (1 ≤ 6 ∧ 6 ≤ 5) ∧ categoryOfCode 5 = some .e ∧
      (∃ u ∈ (bound .ready).units, u.tag = 1) ∧ (∀ u ∈ (crowd 96).units, u.tag ≠ 99999999) ∧
        96 ≤ (crowd 96).units.length ∧ (∀ u ∈ (crowd 95).units, u.tag ≠ 99999999) ∧ (crowd 95).units.length < 96 := by
  decide +kernel

theorem witness_DegasBeginBindsUnit :
    let s := (plant .ready).setUnits [unit .announced none]
    s.inReset = false ∧ roleOf station = .station ∧ ¬ (1 ≤ 5 ∧ 5 ≤ 4) ∧ classOfCode 1 = some .cl ∧
      classOfCode 2 = some .fl ∧ (plant .ready).unit? 1 = none ∧
        (bound .ready).unit? 1 = some (unit .degassing (some station)) ∧ s.unit? 1 = some (unit .announced none) ∧
          s.boundUnit station = none ∧ (unit .announced none).declRefr = some .cl ∧
            (unit .announced none).declRefr ≠ some .fl := by decide +kernel

/-- The bound unit with a recovered mass. -/
def drained (grams : Nat) (charge : Option Nat) : State :=
  (plant .ready).setUnits [{ unit .degassing (some station) with recovered := grams, declCharge := charge }]

theorem witness_DegasEndEndsUnit :
    fed.inReset = false ∧ roleOf station = .station ∧ 3 < 4 ∧ (plant .ready).boundUnit station = none ∧
      fed.boundUnit station ≠ none ∧ fed.ownedBay station ≠ none ∧
        (waitingFor (bound .hold) station (.unit 1)).entry station ≠ none ∧
          (drained 30 (some 100)).ownedBay station = none ∧ (drained 30 (some 100)).entry station = none ∧
            ((drained 30 (some 100)).boundUnit station).any (fun u => decide (u.recovered ≤ 30)) = true ∧
              ((drained 31 none).boundUnit station).any (fun u => decide (30 < u.recovered ∧ u.declCharge = none)) = true ∧
                (∀ v ∈ (drained 85 (some 100)).units, v.tag = 1 → some v = (drained 85 (some 100)).boundUnit station) ∧
                  850 ≤ min 2000 ((2 * (85 * 1000) + 100) / (2 * 100)) ∧
                    min 2000 ((2 * (84 * 1000) + 100) / (2 * 100)) < 850 := by decide +kernel

/-- R14, the example: unit 2 sits at the threshold of 30 g and is empty, unit 3 above it is COMPLETE and SHORT. -/
theorem test_degas_end_threshold :
    (match exec (.degasEnd station 1 2) (drained 30 (some 120)) with
      | .next t => t.units.map (fun u => (u.outcome, u.ratio, u.marks.empty))
      | _ => []) = [(some .noCharge, none, true)] ∧
    (match exec (.degasEnd station 1 2) (drained 45 (some 120)) with
      | .next t => t.units.map (fun u => (u.outcome, u.ratio, u.marks.short))
      | _ => []) = [(some .complete, some 375, true)] := by decide +kernel

theorem witness_UnitQueryAnswers :
    fed.inReset = false ∧ 99999999 < 100000000 ∧ (∀ u ∈ fed.units, u.tag ≠ 99999999) ∧ fed.unit? 1 ≠ none := by
  decide +kernel

theorem witness_UnitReleaseRemoves :
    fed.inReset = false ∧ roleOf station ≠ .supervisory ∧ roleOf head = .supervisory ∧
      (∀ u ∈ fed.units, u.tag ≠ 99999999) ∧ (fed.unit? 1).map (·.state) = some .degassing ∧
        (((plant .ready).setUnits [unit .closed none]).unit? 1).map (·.state) = some .closed := by decide +kernel

theorem witness_RecordQueriesAnswer :
    fed.inReset = false ∧ 8 ≤ 8 ∧ bayOfArg 7 = some 7 ∧ 2 < 3 ∧ 1 < 2 ∧ lineOfArg 1 = some 0 ∧ lineOfArg 2 = some 1 ∧
      roleOf station ≠ .supervisory ∧ (plant .ready).inReset = false ∧ ((plant .ready).node station).outcome = none ∧
        (fed.node station).outcome ≠ none := by decide +kernel

/-! ## Witnesses: feeds and the Wait List -/

/-- Two READY bays with a CL vessel, the second with less room. -/
def twoBays : State :=
  ((plant .ready).setBay 1 { bayIn .ready with net := 100 }).setChannel 1 okChannel

theorem witness_VesselChoiceIsFirst :
    twoBays.chooseVessel .cl = some 1 ∧ twoBays.candidate .cl 0 = true ∧ (plant .full).chooseVessel .cl = none := by
  decide +kernel

theorem witness_FeedOpenGrants :
    (bound .ready).inReset = false ∧ roleOf station = .station ∧
      ((bound .ready).boundUnit station).map (·.identRefr) = some (some .cl) ∧ (bound .ready).ownedBay station = none ∧
        ((bound .ready).node station).slot = .empty ∧ (bound .ready).interlock.estop = false ∧
          (bound .ready).chooseVessel .cl = some 0 ∧ ((bound .ready).bay 0).vessel = some vessel := by decide +kernel

/-- A state with the E-stop asserted. -/
def stopped (s : State) : State := s.estopLevel true

/-- The bound unit with HC in it. -/
def boundHc : State :=
  (plant .ready).setUnits [{ unit .degassing (some station) with identRefr := some .hc }]

theorem witness_FeedOpenRefusedOrWaits :
    (plant .ready).inReset = false ∧ roleOf station = .station ∧ (plant .ready).boundUnit station = none ∧
      fed.ownedBay station ≠ none ∧ ((bound .ready).setSlot station (.held answer)).ownedBay station = none ∧
        (((bound .ready).setSlot station (.held answer)).node station).slot ≠ .empty ∧
          (stopped (bound .ready)).interlock.estop = true ∧
            (boundHc.boundUnit station).map (·.identRefr) = some (some .hc) ∧ boundHc.permitOn = false ∧
              (bound .full).chooseVessel .cl = none ∧ (bound .full).mayWait .cl = false ∧
                (bound .hold).chooseVessel .cl = none ∧ ((bound .hold).bay 0).state = .hold := by decide +kernel

theorem test_feed_open :
    [statusOf (.feedOpen station 1) (bound .ready), statusOf (.feedOpen station 1) (bound .hold),
     statusOf (.feedOpen station 1) (bound .full), statusOf (.feedOpen station 1) boundHc,
     statusOf (.feedOpen station 1) (stopped boundHc), statusOf (.feedOpen station 1) fed]
      = [some .ok, some .deferred, some .noVessel, some .permitOff, some .estop, some .feedActive] := by decide +kernel

theorem test_feed_open_order :
    [statusOf (.feedOpen station 1) (plant .ready), statusOf (.feedOpen station 1) ((bound .ready).setSlot station (.held answer)),
     statusOf (.feedOpen station 1) (stopped (bound .ready)), statusOf (.feedOpen head 1) (bound .ready)]
      = [some .noUnit, some .slotBusy, some .estop, some .notPermitted] := by decide +kernel

theorem witness_FeedProgressRenews :
    (plant .ready).inReset = false ∧ roleOf station ≠ .supervisory ∧ (plant .ready).ownedBay station = none ∧
      ((plant .ready).node station).outcome = none ∧ (fed.setFeed 0 none).ownedBay station = none ∧
        ((fed.setFeed 0 none).node station).outcome ≠ none ∧ closing.ownedBay station = some 0 ∧
          (closing.feed 0).map (·.state) = some .closing ∧ (closing.node station).outcome ≠ none ∧
            fed.ownedBay station = some 0 ∧ (fed.feed 0).map (·.state) = some .feeding ∧ (fed.channel 0).state = .ok ∧
              fedOut.ownedBay station = some 0 ∧ (fedOut.channel 0).state ≠ .ok ∧ (fedOut.bay 0).vessel = some vessel ∧
                min 1000000 (0 + 10 * 2299) < 200 * 115 := by decide +kernel

theorem witness_FeedEndsByEstimate :
    fedOut.inReset = false ∧ roleOf station = .station ∧ (fedOut.node station).slot.awaits .feedClose = false ∧
      fedOut.ownedBay station = some 0 ∧
        (fedOut.feed 0).map (fun f => (f.purpose.unit?, f.state, f.booked, f.startNet))
          = some (some 1, .feeding, false, 0) ∧
          (fedOut.node station).outcome ≠ none ∧ (fedOut.channel 0).state ≠ .ok ∧
            200 * 115 ≤ min 1000000 (0 + 10 * 2300) ∧ roleOf foam ≠ .supervisory ∧ (out foamFed).inReset = false ∧
              ((out foamFed).node foam).slot.awaits .feedClose = false ∧ (out foamFed).ownedBay foam = some 0 ∧
                ((out foamFed).feed 0).map (fun f => (f.purpose, f.state, f.booked, f.startNet))
                  = some (.batch 0 1 1, .feeding, false, 0) ∧
                  ((out foamFed).node foam).outcome ≠ none ∧ ((out foamFed).channel 0).state ≠ .ok ∧
                    ((out foamFed).bay 0).vessel = some vessel ∧
                      (((out foamFed).line 0).current).map (·.number) = some 1 := by decide +kernel

/-- R70, R81, R122: a batch's feed whose book reaches max fill with the channel out is booked, and the batch is STALLED. -/
theorem test_batch_book_full :
    (match exec (.feedProgress foam 1 2300) (out foamFed) with
      | .next t => (t.line 0).current.map (fun bt => (bt.state, bt.segments.map (fun g => (g.endCause, g.gain, g.estimated))))
      | _ => none) = some (.stalled, [(some .full, some 23000, true)]) := by decide +kernel

theorem witness_FeedCloseDefers :
    (waitingFor (bound .hold) station (.unit 1)).inReset = false ∧ roleOf station = .station ∧
      (waitingFor (bound .hold) station (.unit 1)).ownedBay station = none ∧
        (waitingFor (bound .hold) station (.unit 1)).entry station ≠ none ∧ (bound .hold).ownedBay station = none ∧
          (bound .hold).entry station = none ∧ ((bound .hold).node station).outcome = none ∧
            (fed.setFeed 0 none).entry station = none ∧ ((fed.setFeed 0 none).node station).outcome ≠ none ∧
              closing.ownedBay station = some 0 ∧ (closing.feed 0).map (·.state) = some .closing ∧
                fed.ownedBay station = some 0 ∧ (fed.channel 0).state = .ok ∧
                  ((fed.setSlot station (.held answer)).node station).slot ≠ .empty ∧ (fed.node station).slot = .empty ∧
                    (fed.feed 0).map (·.purpose.line?) = some none := by decide +kernel

theorem witness_HoldDeadlineAbandons :
    fed.inReset = false ∧ (plant .ready).feed 0 = none ∧ (closing.feed 0).map (·.holdDeadline) = some none ∧
      (fed.feed 0).map (fun f => (f.holdDeadline, f.state, f.booked)) = some (some 20000, .feeding, false) ∧
        max fed.now 19999 < 20000 ∧ 20000 ≤ max fed.now 20000 ∧ (fed.node station).slot.awaits .feedClose = false ∧
          (fed.channel 0).state = .ok ∧ (fed.feed 0).map (·.purpose.line?) = some none ∧ (fedOut.channel 0).state ≠ .ok ∧
            (fedOut.feed 0).map (·.purpose.unit?) = some (some 1) ∧ foamFed.inReset = false ∧
              (foamFed.channel 0).state = .ok ∧ (foamFed.node foam).slot.awaits .feedClose = false ∧
                (foamFed.feed 0).map (fun f => (f.purpose, f.holdDeadline)) = some (.batch 0 1 1, some 20000) ∧
                  ((foamFed.line 0).current).map (·.number) = some 1 ∧ ((out foamFed).channel 0).state ≠ .ok ∧
                    ((out foamFed).feed 0).map (fun f => (f.purpose, f.holdDeadline, f.state, f.booked))
                      = some (.batch 0 1 1, some 20000, .feeding, false) := by decide +kernel

/-- The foam line's entry, its batch in WAITING_FEED. -/
def foamWaits : State := waitingFor (withBatch (plant .hold) (batch .waitingFeed [])) foam (.batch 0 1)

theorem witness_EntriesLeave :
    (plant .hold).inReset = false ∧ roleOf station = .station ∧ (plant .hold).entry station = none ∧
      ((waitingFor (bound .hold) station (.unit 1)).entry station).map (fun e => (e.deadline, e.purpose.line?))
        = some (10, none) ∧ max 0 9 < 10 ∧ 10 ≤ max 0 10 ∧
          (foamWaits.entry foam).map (fun e => (e.deadline, e.purpose.line?)) = some (10, some 0) := by decide +kernel

/-! ## Witnesses: foam batches -/

theorem witness_FoamOpenCreatesBatch :
    (plant .ready).inReset = false ∧ 4 < 5 ∧ classOfCode 1 = some .cl ∧ classOfCode 3 = some .hc ∧
      ((withBatch (plant .ready) (batch .stalled [])).line 0).current ≠ none ∧
        ((plant .ready).line 0).current = none ∧
          ((plant .ready).granted 0 foam (.batch 0 1 1) .cl).ownedBay (nodeOfLine 0) ≠ none ∧
            (((plant .ready).setSlot foam (.held answer)).node (nodeOfLine 0)).slot ≠ .empty ∧
              ((plant .ready).node (nodeOfLine 0)).slot = .empty ∧ (plant .ready).ownedBay (nodeOfLine 0) = none ∧
                (stopped (plant .ready)).interlock.estop = true ∧ (plant .ready).interlock.estop = false ∧
                  (plant .ready).permitOn = false ∧ (plant .full).chooseVessel .cl = none ∧
                    (plant .full).mayWait .cl = false ∧ (plant .hold).chooseVessel .cl = none ∧
                      (plant .hold).mayWait .cl = true ∧ (plant .ready).chooseVessel .cl = some 0 := by decide +kernel

/-- R114: batch numbers run from 65,535 on to 1. -/
theorem test_foam_open_number :
    (match exec (.foamOpen foam 1 1)
        ((plant .ready).setLine 0 { current := none, previous := none, lastNumber := 65535 }) with
      | .next t => ((t.line 0).lastNumber, ((t.line 0).current).map (·.number))
      | _ => (0, none)) = (1, some 1) := by decide +kernel

theorem witness_FoamResumeAsksAgain :
    let s (st : BayState) (k : Nat) := withBatch (plant st) (batch .stalled (List.replicate k (segment true)))
    let hc := withBatch (plant .ready) { batch .stalled [] with cls := .hc }
    (s .ready 3).inReset = false ∧ ((plant .ready).line 0).current = none ∧
      ((withBatch (plant .ready) (batch .opened [])).line 0).current.map (·.state) = some .opened ∧
        ((s .ready 4).line 0).current.map (·.segments.length) = some 4 ∧
          ((s .ready 3).line 0).current.map (·.segments.length) = some 3 ∧
            ((s .ready 3).granted 0 foam (.batch 0 1 1) .cl).ownedBay (nodeOfLine 0) ≠ none ∧
              (((s .ready 3).setSlot foam (.held answer)).node (nodeOfLine 0)).slot ≠ .empty ∧
                (s .ready 3).ownedBay (nodeOfLine 0) = none ∧ ((s .ready 3).node (nodeOfLine 0)).slot = .empty ∧
                  (stopped (s .ready 3)).interlock.estop = true ∧ hc.permitOn = false ∧ hc.interlock.estop = false ∧
                    (s .full 3).chooseVessel .cl = none ∧ (s .full 3).mayWait .cl = false ∧
                      (s .hold 3).chooseVessel .cl = none ∧ (s .hold 3).mayWait .cl = true ∧
                        (s .ready 3).chooseVessel .cl = some 0 := by decide +kernel

/-- A degassed unit and an OPEN batch of class MX with some cabinets. -/
def admitting (k : Nat) : State :=
  withBatch ((plant .feeding).setUnits [unit .degassed none])
    { batch .opened [segment false] with cls := .mx, cabinets := List.replicate k { tag := 9, weight := 5, share := none } }

theorem witness_CabinetAdmitBooks :
    (admitting 23).inReset = false ∧ ¬ (1 ≤ 0) ∧ classOfCode 2 = some .fl ∧ classOfCode 3 = some .hc ∧
      (∀ bt ∈ ((plant .ready).line 0).current, bt.state ≠ .opened) ∧ (admitting 23).unit? 2 = none ∧
        ((admitting 23).unit? 1).map (fun u => (u.state, u.declFoam)) = some (.degassed, some .fl) ∧
          (((admitting 23).setUnits [unit .degassing (some station)]).unit? 1).map (·.state) = some .degassing ∧
            (((withBatch (admitting 0) (batch .opened [])).line 0).current.map (fun b => (b.state, b.cls))
              = some (.opened, .cl) ∧ ((withBatch (admitting 0) (batch .opened [])).unit? 1).map (·.state)
                = some .degassed) ∧
              ((admitting 24).line 0).current.map (fun b => (b.state, b.cls, b.cabinets.length)) = some (.opened, .mx, 24) ∧
                ((admitting 23).line 0).current.map (fun b => (b.state, b.cls, b.cabinets.length))
                  = some (.opened, .mx, 23) := by decide +kernel

/-- R133: a category B cabinet weighs 300 g in FL by default; R125: it takes place 24. -/
theorem test_cabinet_admit :
    (match exec (.cabinetAdmit foam 1 1 2) (admitting 23) with
      | .next t => t.lastReply.map (·.body)
      | _ => none) = some (.admitted 300 24) ∧ statusOf (.cabinetAdmit foam 1 1 2) (admitting 24) = some .batchFull := by
  decide +kernel

theorem witness_FoamCloseCompletes :
    let s := withBatch (plant .ready) (batch .stalled [segment true])
    let f := out foamFed
    let ended : Batch := { batch .opened [segment false] with
      segments := modifyAt (fun x => { x with endCause := some .closed }) [segment false] (1 - 1) }
    s.inReset = false ∧ (s.node (nodeOfLine 0)).slot.awaits .foamClose = false ∧
      ((s.line 0).current).map (·.state) = some .stalled ∧
        (∀ bt ∈ (s.line 0).current, ∀ g ∈ bt.segments, g.settled = true) ∧ foamWaits.inReset = false ∧
          (foamWaits.line 0).current = some (batch .waitingFeed []) ∧
            (foamWaits.entry (nodeOfLine 0)).map (·.purpose.line?) = some (some 0) ∧ f.inReset = false ∧
              (f.line 0).current = some (batch .opened [segment false]) ∧
                (f.node (nodeOfLine 0)).slot.awaits .foamClose = false ∧
                  (f.node (nodeOfLine 0)).slot.awaits .feedClose = false ∧ f.ownedBay (nodeOfLine 0) = some 0 ∧
                    (f.feed 0).map (fun x => (x.state, x.booked, x.purpose)) = some (.feeding, false, .batch 0 1 1) ∧
                      (f.channel 0).state ≠ .ok ∧ ∀ g ∈ (ended.segmentBooked 1 0 true false).segments, g.settled = true := by
  decide +kernel

/-- R129: the waiting FOAM_OPEN is withdrawn, and the FOAM_CLOSE completes the batch at once. -/
theorem test_foam_close_waiting :
    (match exec (.foamClose foam 9) foamWaits with
      | .next t => some ((t.line 0).current, (t.node foam).slot, t.waits, t.lastReply.map (·.body))
      | _ => none) = some (none, .deliverable { answer with status := .withdrawn }, [], some (.completion 0 none 0)) := by
  decide +kernel

theorem witness_FoamCloseDefers :
    let s := withBatch (plant .ready) (batch .stalled [segment false])
    s.inReset = false ∧ ((plant .ready).line 0).current = none ∧
      ((withBatch (plant .ready) (batch .closing [])).line 0).current.map (·.state) = some .closing ∧
        (s.line 0).current.map (·.segments) = some [segment false] ∧
          ((s.setSlot foam (.held answer)).node (nodeOfLine 0)).slot ≠ .empty ∧ (s.node (nodeOfLine 0)).slot = .empty ∧
            (foamFed.line 0).current.map (·.state) = some .opened ∧ foamFed.ownedBay (nodeOfLine 0) = some 0 ∧
              (foamFed.feed 0).map (fun f => (f.state, f.purpose)) = some (.feeding, .batch 0 1 1) ∧
                (foamFed.channel 0).state = .ok ∧ (foamFed.node (nodeOfLine 0)).slot = .empty ∧
                  ((foamFed.setSlot foam (.held answer)).node (nodeOfLine 0)).slot ≠ .empty := by decide +kernel

theorem witness_SplitAddsUp :
    ([1] : List Nat) ≠ [] ∧ (∀ w ∈ [1], 1 ≤ w) ∧ 0 < [1].length ∧ 5 * [1].getD 0 0 % [1].sum = 0 ∧
      ∀ c ∈ (batch .closing []).cabinets, 1 ≤ c.weight := by decide +kernel

/-! ## Witnesses: settings, nodes and alarms -/

theorem witness_SettingsApplied :
    State.reset.inReset = false ∧ roleOf head = .supervisory ∧ ¬ (1 ≤ 0) ∧ categoryOfCode 5 = some .e ∧
      classOfCode 4 = some .mx ∧ 9 < 10 ∧ 9 ≠ 4 ∧ paramRange 9 = some (0, 200) ∧ paramRange 1 = some (5, 120) := by
  decide +kernel

/-- R178, the examples. -/
theorem test_set_param :
    [statusOf (.setParam head 1 1 30) State.reset, statusOf (.setParam head 1 1 3) State.reset,
     statusOf (.setParam head 1 4 25000) State.reset, statusOf (.setParam head 1 10 50) State.reset]
      = [some .ok, some .clamped, some .clamped, some .badArgument] := by decide +kernel

theorem witness_ReserveIsReviewed :
    let s := waitingFor (bound .full) station (.unit 1)
    (plant .ready).inReset = false ∧ roleOf head = .supervisory ∧ ((plant .ready).bay 0).state = .ready ∧
      (((plant .ready).setBay 0 { bayIn .ready with net := 3001 }).bay 0).headroom = some 19999 ∧
        ((plant .full).bay 0).state = .full ∧ ((plant .full).bay 0).headroom = some 23000 ∧
          ((plant .full).channel 0).state = .ok ∧ s.waits ≠ [] ∧ (s.waits.find? (s.canServe 0)).isSome = true := by
  decide +kernel

/-- A FULL bay whose 2,000 g of room meet the reserve of 2,000 g, and fall short of 2,001 g (R43). -/
theorem test_reserve :
    let s := (plant .full).setBay 0 { bayIn .full with net := 21000 }
    let after (v : Nat) := match exec (.setParam head 1 4 v) s with
      | .next t => some (t.bay 0).state
      | _ => none
    after 2000 = some .ready ∧ after 2001 = some .full := by decide +kernel

theorem witness_LinkStatsClears :
    State.reset.inReset = false ∧ 12 < 13 ∧ nodeOfAddr 12 = some 11 ∧ nodeOfAddr 1 = some 0 ∧
      roleOf station ≠ .supervisory ∧ (11 : Node) ≠ station ∧ roleOf head = .supervisory ∧ (0 : Node) = station := by
  decide +kernel

theorem witness_DigestsAndAlarms :
    let good (items : List (Nat × Nat)) := items.length ≤ 12 ∧ items.Nodup ∧ ∀ i ∈ items,
      (1 ≤ i.1 ∧ i.1 ≤ 4 ∧ i.2 ≤ 7) ∨ (5 ≤ i.1 ∧ i.1 ≤ 7 ∧ i.2 = 0) ∨ (i.1 = 8 ∧ 1 ≤ i.2 ∧ i.2 ≤ 12) ∨
        (i.1 = 9 ∧ 1 ≤ i.2 ∧ i.2 ≤ 2)
    State.reset.inReset = false ∧ good [(1, 0), (4, 7), (5, 0), (8, 12), (9, 2)] ∧ ¬ good [(1, 8)] ∧
      ¬ good [(5, 0), (5, 0)] ∧ roleOf head = .supervisory ∧ 4 < 5 ∧ 4 = (3 : Fin 4).val + 1 := by decide +kernel

theorem test_set_digest :
    statusOf (.setDigest station 1 [(9, 2), (8, 12)]) State.reset = some .ok ∧
      statusOf (.setDigest station 1 [(9, 3)]) State.reset = some .badArgument := by decide +kernel

/-! ## Witnesses: bays and the Definition Store -/

/-- The store writing the record of bay 0. -/
def writing (s : State) : State := s.setStoreOp (.writing 0 .cleared 30)

theorem witness_MountDefinesVessel :
    (plant .ready).inReset = false ∧ roleOf head = .supervisory ∧ 8 ≤ 8 ∧ bayOfArg 0 = some 0 ∧ bayOfArg 1 = some 1 ∧
      classOfCode 1 = some .cl ∧ 1000000 < 977001 + 200 * fillDensity .cl ∧
        400000 + 5000 * fillDensity .cl ≤ 1000000 ∧ ((plant .ready).bay 0).state = .ready ∧
          ((plant .ready).bay 1).state = .absent ∧ ((plant .ready).bay 0).vessel.map (·.id) = some 7 ∧
            (writing (plant .ready)).store.op ≠ .idle ∧ (plant .ready).store.op = .idle ∧
              ((plant .ready).channel 1).state ≠ .ok ∧ ((plant .absent).bay 0).state = .absent ∧
                ((plant .absent).channel 0).state = .ok := by decide +kernel

theorem test_mount :
    [statusOf (.vesselMount head 1 0 8 1 50 1000) (plant .ready), statusOf (.vesselMount head 1 1 7 1 50 1000) (plant .ready),
     statusOf (.vesselMount head 1 1 8 1 50 1000) (writing (plant .ready)),
     statusOf (.vesselMount head 1 1 8 1 5000 400000) (plant .ready),
     statusOf (.vesselMount head 1 1 8 1 49 1000) (plant .ready)]
      = [some .wrongState, some .duplicate, some .storeBusy, some .ok, some .badArgument] := by decide +kernel

theorem witness_RetireAndClearFault :
    (plant .ready).inReset = false ∧ roleOf head = .supervisory ∧ 8 ≤ 8 ∧ bayOfArg 0 = some 0 ∧
      ((plant .sealed).bay 0).state = .sealed ∧ ((plant .settling).bay 0).state = .settling ∧
        ((plant .ready).bay 0).state = .ready ∧ (writing (plant .ready)).store.op ≠ .idle ∧
          (plant .ready).store.op = .idle ∧ ((plant .fault).bay 0).state = .fault ∧ (plant .fault).switch 0 = true ∧
            (plant .fault).inReset = false ∧ ((plant .fault).channel 0).state = .ok ∧
              (((plant .fault).setChannel 0 Channel.initial).channel 0).state ≠ .ok ∧
                ((plant .fault).setSwitch 0 false).switch 0 = false := by decide +kernel

theorem test_retire_and_clear :
    [statusOf (.vesselRetire head 1 0) (plant .ready), statusOf (.vesselRetire head 1 0) (plant .fault),
     statusOf (.vesselRetire head 1 0) (plant .sealed), statusOf (.vesselClearFault head 1 0) (plant .fault),
     statusOf (.vesselClearFault head 1 0) ((plant .fault).setSwitch 0 false)]
      = [some .ok, some .bayBusy, some .wrongState, some .ok, some .wrongState] := by decide +kernel

theorem witness_CalibrateSets :
    (plant .ready).inReset = false ∧ roleOf head = .supervisory ∧ 16777214 < 16777215 ∧ 8 ≤ 8 ∧ bayOfArg 0 = some 0 ∧
      ((plant .fault).bay 0).state = .fault ∧ ((plant .ready).bay 0).state = .ready ∧
        (writing (plant .ready)).store.op ≠ .idle ∧ (plant .ready).store.op = .idle ∧
          ((plant .ready).bay 0).vessel = some vessel ∧ ((plant .ready).channel 0).state = .ok ∧
            (((plant .hold).setChannel 0 Channel.initial).channel 0).state ≠ .ok ∧
              ((plant .absent).bay 0).state = .absent ∧ ((plant .absent).channel 0).state = .ok ∧
                (writing (plant .absent)).store.op ≠ .idle ∧ (plant .absent).store.op = .idle ∧
                  ((plant .sealed).bay 0).state = .sealed := by decide +kernel

theorem test_calibrate :
    [statusOf (.calibrate head 1 0 16777214 1) (plant .fault), statusOf (.calibrate head 1 0 16777214 1) (plant .ready),
     statusOf (.calibrateZeroCapture head 1 0 1) (plant .absent), statusOf (.calibrateZeroCapture head 1 0 1) (plant .ready),
     statusOf (.calibrateZeroCapture head 1 0 0) (plant .absent)]
      = [some .bayBusy, some .ok, some .ok, some .wrongState, some .badArgument] := by decide +kernel

theorem witness_StoreWriteEnds :
    (writing (plant .ready)).inReset = false ∧ (writing (plant .ready)).store.op = .writing 0 .cleared 30 ∧
      (plant .ready).store.op = .idle ∧ ((plant .ready).setStoreOp (.capture 0 1)).store.op.captures 0 ≠ none := by
  decide +kernel

/-- A close watch of bay 0 that ends at 2,000 ms. -/
def watched (s : State) : State := s.setBay 0 { s.bay 0 with closeWatch := some 2000 }
def booked (s : State) : State := s.setFeed 0 ((s.feed 0).map (fun f => { f with booked := true }))

/-- A feed of foam line 1 on bay 0 that has ended, its batch in a state and its FOAM_CLOSE waiting. -/
def foamClosing (st : BatchState) : State :=
  ((withBatch closing (batch st [segment false])).setFeed 0
    ((closing.feed 0).map (fun f => { f with owner := foam, purpose := .batch 0 1 1 }))).setSlot foam
      (.deferred 9 .foamClose)

theorem witness_CloseWatchEnds :
    (watched closing).inReset = false ∧ (closing.bay 0).closeWatch = none ∧
      ((watched closing).bay 0).state = .closing ∧ ((watched closing).bay 0).closeWatch = some 2000 ∧
        ((watched closing).feed 0).map (fun f => (f.booked, f.purpose.unit?)) = some (false, some 1) ∧
          ((watched closing).channel 0).state = .ok ∧ ((booked (watched closing)).feed 0).map (·.booked) = some true ∧
            ((out (booked (watched closing))).channel 0).state ≠ .ok ∧
              ((watched closing).node station).slot.awaits .feedClose = false ∧ max 0 1999 < 2000 ∧
                2000 ≤ max 0 2000 ∧
                  (((watched closing).setSlot station (.deferred 9 .feedClose)).node station).slot = .deferred 9 .feedClose ∧
                    ((watched closing).node station).outcome ≠ none ∧
                      ((watched (foamClosing .stalled)).node foam).slot.awaits .feedClose = false ∧
                        ((watched (foamClosing .stalled)).line 0).current = some (batch .stalled [segment false]) ∧
                          ((watched (foamClosing .closing)).bay 0).closeWatch = some 2000 ∧
                            ((watched (foamClosing .closing)).feed 0).map (fun f => (f.purpose, f.owner, f.booked))
                              = some (.batch 0 1 1, nodeOfLine 0, false) ∧
                              ((watched (foamClosing .closing)).node foam).slot = .deferred 9 .foamClose ∧
                                ((watched (foamClosing .closing)).line 0).current = some (batch .closing [segment false]) ∧
                                  (∀ x ∈ ((batch .closing [segment false]).segmentBooked 1 0 true false).segments,
                                    x.settled = true) := by decide +kernel

/-- 2.10, the worked example at step 1, on bay 0 and for station 1. -/
def stuckValve : State :=
  ((watched closing).setFeed 0 ((closing.feed 0).map (fun f => { f with startNet := 31000, estimate := 240 }))).setSlot
    station (.deferred 9 .feedClose)

/-- 2.10, the worked example at step 2: the switch stays open, 240 g are booked and the FEED_CLOSE reply is deliverable. -/
theorem test_close_watch_books :
    (match exec (.closeWatchExpiry 0 2000) stuckValve with
      | .next t => some ((t.bay 0).state, [(t.bay 0).net, (t.bay 0).book, ((t.node station).outcome.bind (·.gain)).getD 0],
          [(t.bay 0).weighed, (t.feed 0).isNone, (t.node station).slot.isDeliverable])
      | _ => none) = some (.fault, [31240, 31240, 240], [false, true, true]) := by decide +kernel

/-- R29, R130, R131: the expiry that books the last segment of a CLOSING batch completes it. -/
theorem test_close_watch_completes :
    (match exec (.closeWatchExpiry 0 2000) (watched (foamClosing .closing)) with
      | .next t => some ((t.line 0).current, (t.line 0).previous.map (·.state), (t.node foam).slot.isDeliverable)
      | _ => none) = some (none, some .settled, true) := by decide +kernel

/-! ## Witnesses: weighing -/

theorem witness_SamplesOpenChannel :
    let s (run : Nat) (st : BayState) := (plant st).setChannel 0 { Channel.initial with validRun := run }
    let f := fed.setChannel 0 { Channel.initial with validRun := 9 }
    (s 8 .hold).inReset = false ∧ 16777214 < 16777215 ∧ 4 < 5 ∧ 5 ≤ 5 ∧ ((s 8 .hold).channel 0).state ≠ .ok ∧
      ((s 8 .hold).channel 0).validRun < 9 ∧ 9 ≤ ((s 9 .full).channel 0).validRun ∧ ((s 9 .full).bay 0).state = .full ∧
        ((s 9 .hold).bay 0).state = .hold ∧ ((s 9 .hold).channel 0).state ≠ .ok ∧ f.inReset = false ∧
          (f.channel 0).state ≠ .ok ∧ 9 ≤ (f.channel 0).validRun ∧ (f.bay 0).state = .feeding ∧
            (f.feed 0).map (·.state) = some .feeding ∧ (f.bay 0).vessel = some vessel ∧
              (grossOf 49998 0 32768).1 - 2000 < 200 * 115 ∧ 200 * 115 ≤ (grossOf 50000 0 32768).1 - 2000 := by
  decide +kernel

/-- The settling bay one sample short of a set, with a tare of 2,000 g and a gross of 5,000 g at the raw code 10,000. -/
def settlingBay : State := weighing .settling .baseline (plant .settling)

/-- The same with a net that an estimated booking wrote last. -/
def estimatedBay : State :=
  settlingBay.setBay 0 { settlingBay.bay 0 with source := .estimated, net := 2989, book := 2989 }

theorem witness_WindowSettles :
    let w := window .baseline
    let short := settlingBay.setChannel 0 { okChannel with window := some { w with samples := List.replicate 6 5000 } }
    let wait := settlingBay.setChannel 0 { okChannel with
      window := some { w with phase := .wait, settleDeadline := some 3000, samples := [] } }
    settlingBay.inReset = false ∧ (wait.channel 0).window.map (fun x => (x.phase, x.settleDeadline)) = some (.wait, some 3000) ∧
      max 0 2999 < 3000 ∧ 3000 ≤ max 0 3000 ∧ (settlingBay.channel 0).window = some w ∧ w.phase = .average ∧
        w.purpose = .baseline ∧ (settlingBay.bay 0).state = .settling ∧ (settlingBay.channel 0).state = .ok ∧
          (short.channel 0).window.map (·.samples.length) = some 6 ∧ w.samples.length = 7 ∧
            (settlingBay.bay 0).source ≠ .estimated ∧ (estimatedBay.bay 0).source = .estimated ∧
              (estimatedBay.channel 0).window = some w ∧ (estimatedBay.bay 0).state = .settling ∧
                (grossOf 10000 0 32768).1 = 5000 ∧
                  (∀ x ∈ w.samples ++ [5000], ∀ y ∈ w.samples ++ [5000], x ≤ y + w.band.getD 0) ∧
                    (settlingBay.bay 0).vessel = some vessel ∧ 2000 ≤ 200 * 115 - (5000 - 2000) ∧
                      20000 ≤ 200 * 115 - (5000 - 2000) ∧ 200 * 115 - (5000 - 2000) < 20001 ∧
                        (wait.bay 0).state ≠ .feeding ∧ (wait.channel 0).state = .ok ∧
                          ((weighing .closing .feedEnd closing).channel 0).window.map (·.phase) = some .average ∧
                            ((weighing .absent .zeroCapture (plant .absent)).channel 0).window.map (·.purpose)
                              = some .zeroCapture := by decide +kernel

/-- R54, R57: a sample in phase WAIT is not collected, and a zero capture collects its raw code. -/
theorem test_collect :
    let collected (p : WindowPurpose) (ph : WindowPhase) : Option (List Nat) :=
      match exec (.sample 0 (.code 10000)) ((plant .absent).setChannel 0 { okChannel with
          window := some { window p with phase := ph, samples := [7] } }) with
      | .next t => (t.channel 0).window.map (·.samples)
      | _ => none
    collected .baseline .wait = some [7] ∧ collected .feedEnd .average = some [7, 5000] ∧
      collected .zeroCapture .average = some [7, 10000] := by decide +kernel

/-- R61: a settled net of 3,000 g over a book of 2,989 g is reconciled with +11 g, the discrepancy of the example. -/
theorem test_reconciled :
    (match exec (.sample 0 (.code 10000)) estimatedBay with
      | .next t => some ((t.bay 0).unreconciled, (t.bay 0).book, (t.alarms.recs[alarmIx .channelRestored]).value)
      | _ => none) = some (11, 3000, 11) := by decide +kernel

theorem test_sample_settles :
    (match exec (.sample 0 (.code 10000)) settlingBay with
      | .next t => some ((t.bay 0).state, (t.bay 0).net, (t.bay 0).weighed)
      | _ => none) = some (.ready, 3000, true) := by decide +kernel

/-- The ended feed of station 1 one sample short of its reading. -/
def readingDue : State := weighing .closing .feedEnd closing

theorem witness_WeighedFeedBooks :
    let w := window .feedEnd
    let uneven : Window := { w with samples := List.replicate 7 4979, setNo := 4 }
    let foamDue (st : BatchState) :=
      (weighing .closing .feedEnd ((withBatch closing (batch st [segment false])).setFeed 0
        ((closing.feed 0).map (fun f => { f with owner := foam, purpose := .batch 0 1 1 })))).setSlot foam
          (.deferred 9 .foamClose)
    readingDue.inReset = false ∧ 10000 < 16777215 ∧ (readingDue.channel 0).state = .ok ∧
      (readingDue.bay 0).state = .closing ∧ (readingDue.channel 0).window = some w ∧ w.phase = .average ∧
        w.purpose = .feedEnd ∧ w.samples.length = 7 ∧
          (∀ x ∈ w.samples ++ [5000], ∀ y ∈ w.samples ++ [5000], x ≤ y + w.band.getD 0) ∧
            ¬ (∀ x ∈ uneven.samples ++ [5000], ∀ y ∈ uneven.samples ++ [5000], x ≤ y + uneven.band.getD 0) ∧
              4 ≤ uneven.setNo ∧
            (readingDue.feed 0).map (fun f => (f.booked, f.startNet, f.purpose.unit?)) = some (false, 0, some 1) ∧
              (readingDue.bay 0).vessel = some vessel ∧ 3000 < 3001 ∧ 20000 ≤ 200 * 115 - 3000 ∧
                ¬ 20001 ≤ 200 * 115 - 3000 ∧ (readingDue.node station).slot.awaits .feedClose = false ∧
                  ((readingDue.setSlot station (.deferred 9 .feedClose)).node station).slot = .deferred 9 .feedClose ∧
                    (readingDue.node station).outcome ≠ none ∧
                      ((foamDue .opened).line 0).current.map (·.state) = some .opened ∧
                        ((foamDue .closing).line 0).current.map (·.state) = some .closing ∧
                          ((foamDue .closing).feed 0).map (fun f => (f.purpose, f.owner))
                            = some (.batch 0 1 1, nodeOfLine 0) ∧
                            ((foamDue .closing).node foam).slot = .deferred 9 .foamClose ∧
                              ((foamDue .closing).node foam).slot.awaits .feedClose = false ∧
                                ∀ x ∈ ((batch .closing [segment false]).segmentBooked 1 3000 false false).segments,
                                  x.settled = true := by decide +kernel

theorem test_feed_end_books :
    (match exec (.sample 0 (.code 10000)) readingDue with
      | .next t => some (t.units.map (fun u => (u.recovered, u.feedCount)), t.feed 0, (t.bay 0).state)
      | _ => none) = some ([(3000, 1)], none, .ready) := by decide +kernel

theorem witness_ReadyBayServesOldest :
    let s := waitingFor (settlingBay.setUnits [unit .degassing (some station)]) station (.unit 1)
    let f := waitingFor (withBatch settlingBay (batch .waitingFeed [])) foam (.batch 0 1)
    let serves (t : State) (e : WaitEntry) : Bool := decide ((GasClass.cl = e.cls ∨ GasClass.cl = .mx) ∧
      (e.cls = .hc ∨ e.cls = .mx → t.permitOn = true ∧ t.interlock.estop = false))
    s.inReset = false ∧ (s.channel 0).state = .ok ∧ (s.bay 0).state = .settling ∧
      (s.channel 0).window = some (window .baseline) ∧ (s.bay 0).vessel = some vessel ∧
        s.params.grantReserve ≤ 200 * 115 - 3000 ∧
          (s.waits.find? (serves s)).map (·.purpose.unit?) = some (some 1) ∧
            (f.waits.find? (serves f)).map (·.purpose) = some (.batch 0 1) ∧
              (f.line 0).current.map (·.number) = some 1 := by decide +kernel

theorem witness_SamplesEndFeedOrSet :
    let w := window .baseline
    let uneven : Window := { w with samples := List.replicate 7 4979 }
    let capture := (weighing .absent .zeroCapture (plant .absent)).setStoreOp (.capture 0 1)
    fed.inReset = false ∧ 50000 < 16777215 ∧ (fed.channel 0).state = .ok ∧ (fed.bay 0).state = .feeding ∧
      (fed.channel 0).window = none ∧ (fed.bay 0).vessel = some vessel ∧ (grossOf 49998 0 32768).1 - 2000 < 200 * 115 ∧
        200 * 115 ≤ (grossOf 50000 0 32768).1 - 2000 ∧
          (fed.feed 0).map (·.state) = some .feeding ∧
            (capture.bay 0).state ≠ .feeding ∧ (capture.channel 0).window = some (window .zeroCapture) ∧
              capture.store.op.captures 0 = some 1 ∧ w.purpose ≠ .zeroCapture ∧
                (∃ x ∈ uneven.samples ++ [5000], ∃ y ∈ uneven.samples ++ [5000], y + uneven.band.getD 0 < x) ∧
                  ({ uneven with setNo := 3 } : Window).setNo < 4 ∧ 4 ≤ ({ uneven with setNo := 4 } : Window).setNo ∧
                    (2 * (uneven.samples ++ [5000]).sum + 8) / 16 = 4982 ∧ 20000 ≤ 200 * 115 - (4982 - 2000) ∧
                      200 * 115 - (4982 - 2000) < 20019 ∧ ((plant .ready).bay 0).state ≠ .feeding ∧
                        ((plant .ready).channel 0).window = none ∧ ((plant .ready).channel 0).state = .ok := by
  decide +kernel

theorem witness_ChannelIsLost :
    let heard := (plant .ready).setChannel 0 { okChannel with silence := some 200 }
    let unheard := (plant .ready).setChannel 0 { Channel.initial with validRun := 3, silence := some 200 }
    let capture := (weighing .absent .zeroCapture (plant .absent)).setStoreOp (.capture 0 1)
    heard.inReset = false ∧ (heard.channel 0).state = .ok ∧ (unheard.channel 0).state ≠ .ok ∧
      (heard.bay 0).state = .ready ∧ ((plant .full).bay 0).state = .full ∧ (fed.bay 0).state = .feeding ∧
        fed.feed 0 ≠ none ∧ ((plant .ready).channel 0).silence = none ∧ (heard.channel 0).silence = some 200 ∧
          (unheard.channel 0).silence = some 200 ∧ max 0 199 < 200 ∧ 200 ≤ max 0 200 ∧
            (capture.bay 0).state = .absent ∧ (capture.channel 0).state = .ok ∧ capture.store.op.captures 0 = some 1 ∧
              (writing (plant .ready)).store.op.captures 0 = none ∧ (closing.bay 0).state = .closing ∧
                (closing.channel 0).state = .ok ∧ (closing.bay 0).closeWatch = none ∧
                  ((watched closing).bay 0).closeWatch ≠ none ∧
                    (closing.feed 0).map (fun f => (f.booked, f.purpose.unit?)) = some (false, some 1) ∧
                      ((booked (watched closing)).feed 0).map (·.booked) = some true ∧
                        (closing.node station).slot.awaits .feedClose = false ∧
                          ((closing.setSlot station (.deferred 9 .feedClose)).node station).slot
                            = .deferred 9 .feedClose ∧ (closing.node station).outcome ≠ none ∧
                              ((foamClosing .opened).node foam).slot.awaits .feedClose = false ∧
                                ((foamClosing .closing).node foam).slot = .deferred 9 .foamClose ∧
                                  ((foamClosing .closing).line 0).current = some (batch .closing [segment false]) ∧
                                    ((foamClosing .closing).feed 0).map (fun f => (f.purpose, f.owner))
                                      = some (.batch 0 1 1, nodeOfLine 0) := by decide +kernel

/-- R30, R81: the loss of a confirmed CLOSING bay's channel books its estimate and takes it to HOLD with the feed freed. -/
theorem test_loss_books_estimate :
    (match exec (.sample 0 .converterFault) closing with
      | .next t => some ((t.bay 0).state, t.feed 0, t.units.map (fun u => (u.feedCount, u.estimated)))
      | _ => none) = some (.hold, none, [(1, true)]) := by decide +kernel

/-! ## Witnesses: interlocks -/

theorem feeds_sound (s : State) (hb : ∀ b : BayIx, BayFeed s b) (hv : ∀ b : BayIx, ValveOk s b)
    (hc : ∀ b : BayIx, CloseOk s b) (ho : OwnersOk s) (hi : InterlockOk s) : FeedsOk s :=
  ⟨fun b => ⟨hb b, hv b, hc b⟩, ho, hi⟩

theorem witness_fed_slots : SlotsOk fed := by decide +kernel
theorem witness_fed_feeds : FeedsOk fed :=
  feeds_sound fed (by decide +kernel) (by decide +kernel) (by decide +kernel) (by decide +kernel) (by decide +kernel)

/-- An HC feed of station 1 while station 2 waits for HC, with the permit on. -/
def flammableFed : State :=
  let s := { (boundHc.setBay 0 { bayIn .ready with vessel := some { vessel with cls := .hc } }) with
    interlock := { estop := false, healthy := true, flag := true } }
  let t := s.granted 0 station (.unit 1) .hc
  (t.setWaits [{ entryOf other (.unit 2) with cls := .hc }]).setSlot other (.deferred 3 .feedOpen)

theorem witness_flammable_slots : SlotsOk flammableFed := by decide +kernel
theorem witness_flammable_feeds : FeedsOk flammableFed :=
  feeds_sound flammableFed (by decide +kernel) (by decide +kernel) (by decide +kernel) (by decide +kernel)
    (by decide +kernel)

theorem witness_stopped_feeds : FeedsOk (stopped (plant .ready)) :=
  feeds_sound _ (by decide +kernel) (by decide +kernel) (by decide +kernel) (by decide +kernel) (by decide +kernel)

theorem witness_EstopEndsEverything :
    SlotsOk flammableFed ∧ FeedsOk flammableFed ∧ FeedsOk (stopped (plant .ready)) ∧
      SlotsOk (stopped (plant .ready)) ∧ flammableFed.inReset = false ∧ flammableFed.interlock.estop = false ∧
        (stopped (plant .ready)).inReset = false ∧ (stopped (plant .ready)).interlock.estop = true :=
  ⟨witness_flammable_slots, witness_flammable_feeds, witness_stopped_feeds, by decide +kernel⟩

theorem witness_PermitRisesQuietly :
    State.reset.inReset = false ∧ State.reset.interlock.flag = false ∧ roleOf head = .supervisory ∧ 1 < 2 := by
  decide +kernel

theorem witness_PermitDropEndsFlammable :
    SlotsOk flammableFed ∧ FeedsOk flammableFed ∧ flammableFed.inReset = false ∧ flammableFed.interlock.flag = true ∧
      flammableFed.interlock.healthy = true ∧ roleOf head = .supervisory :=
  ⟨witness_flammable_slots, witness_flammable_feeds, by decide +kernel⟩

/-- R138: the drop ends the HC feed with cause INTERLOCK and answers the waiting entry with PERMIT_OFF. -/
theorem test_permit_drop :
    (match exec .gasNotHealthy flammableFed with
      | .next t => some ((t.feed 0).map (·.endCause), (t.node other).slot, t.valve 0)
      | _ => none)
      = some (some (some .interlock), .deliverable { answer with status := .permitOff }, false) := by decide +kernel

/-! ## Witnesses: the plant line -/

theorem witness_LineIsWonAndSelected :
    let sel := onLine { line := .selecting, winner := some 1 }
    State.reset.inReset = false ∧ sel.pli.line ≠ .free ∧ State.reset.pli.line = .free ∧
      (onLine { delivery := [0] }).pli.delivery ≠ [] ∧ State.reset.pli.delivery = [] ∧ (4 : BitVec 4) ∈ [4, 7] ∧
        (∀ m ∈ ([4, 7] : List (BitVec 4)), (4 : BitVec 4).toNat ≤ m.toNat) ∧ sel.pli.line = .selecting ∧
          sel.pli.conn = none ∧ sel.pli.acking = none ∧ headerOf [0] = none ∧
            headerOf (sent .select) = some { kind := 1, sender := 1, receiver := 0, tag := 0, arg := 0 } ∧
              sel.pli.winner = some 1 ∧
                headerOf (ctrlBytes other .select) = some { kind := 1, sender := 2, receiver := 0, tag := 0, arg := 0 } ∧
                  (onLine { line := .selecting, acking := some 0 }).pli.acking = some 0 := by decide +kernel

theorem witness_FrameChecksInOrder :
    let h (kind arg : Nat) : Header := { kind := kind, sender := 1, receiver := 0, tag := 0, arg := arg }
    ([1, 2, 3, 4, 5] : RawFrame).length < 6 ∧ 6 ≤ ([0, 0, 0, 0, 0, 3] : RawFrame).length ∧
      headerOf [0, 0, 0, 0, 0, 3] = none ∧ (headerOf (headerBytes (h 0 0))).map (·.kind) = some 0 ∧
        (headerOf (headerBytes (h 0x80 0))).map (·.kind) = some 0x80 ∧
          (headerOf (headerBytes (h 0x50 0))).map (·.arg) = some 0 ∧
            (headerOf (headerBytes (h 0x50 513))).map (·.arg) = some 513 ∧
              (headerOf (headerBytes (h 0x50 512))).map (·.arg) = some 512 ∧ reqOfCode 0x21 = none ∧
                ctrlOfCode 0x21 = none ∧ reqOfCode 0x5A = none ∧ ctrlOfCode 0x5A = none := by decide +kernel

/-- One frame for each verdict of R158. -/
theorem test_frame_checks :
    let h (kind sender arg : Nat) : Header := { kind := kind, sender := sender, receiver := 0, tag := 0, arg := arg }
    [checkFrame station [1, 2], checkFrame station [0, 0, 0, 0, 0, 3], checkFrame station (headerBytes (h 0x80 1 0)),
     checkFrame station (headerBytes (h 0x50 1 513)), checkFrame station (headerBytes (h 0x50 1 1) ++ [0, 0]),
     checkFrame station (headerBytes (h 0x50 1 1) ++ [0, 0, 0]), checkFrame station (headerBytes (h 0x21 1 0)),
     checkFrame station (headerBytes (h 0x05 2 0)), checkFrame station (headerBytes (h 0x05 1 0)),
     checkFrame station (longBytes (h 0x53 1 4) [0, 0, 0, 1])]
      = [.discard .truncated false, .discard .hdrBad false, .discard .kindUnknown false, .discard .lengthBad false,
         .discard .truncated false, .discard .crcBad false, .discard .kindUnknown false, .discard .addressBad false,
         .keep (.ctrl .fill) false,
         .keep (.request { kind := .unitQuery, tag := 0, arg := 4, payload := [0, 0, 0, 1] }) false] := by
  decide +kernel

/-- A request frame of station 1. -/
def request : ReqFrame := { kind := .feedOpen, tag := 1, arg := 0, payload := [] }

theorem witness_FramesOfBurst :
    (onLine (connected .partner)).inReset = false ∧ (connected .partner).line = .connected ∧
      (onLine { line := .connected }).pli.conn = none ∧ (conn .master .partner).kind = .master ∧
        (conn .master .partner).turn = .partner ∧ checkFrame station (sent .fill) = .keep (.ctrl .fill) false ∧
          checkFrame station (sent .select) = .keep (.ctrl .select) false ∧
            checkFrame station [1] = .discard .truncated false ∧
              checkFrame station (request.bytes station) = .keep (.request request) false ∧
                4 ≤ (List.replicate 4 request).length ∧ (List.replicate 3 request).length < 4 ∧
                  (conn .reselection .gx).kind = .reselection ∧ (conn .master .gx).turn = .gx ∧
                    checkFrame station [0x05, 0x10] = .discard .truncated false ∧
                    checkFrame station [0x05, 0x10, 0, 0, 0, (sent .fill).getD 5 0 ^^^ 1] = .keep (.ctrl .fill) true := by
  decide +kernel

/-- R161, the example with halt on: the CRC error halts the burst, and the request after it is SKIPPED: 0x0204. -/
theorem test_burst_halt :
    let query : ReqFrame := { kind := .unitQuery, tag := 2, arg := 4, payload := [0, 0, 0, 1] }
    let begin : ReqFrame := { kind := .degasBegin, tag := 2, arg := 5, payload := [0, 0, 0, 1, 1] }
    (match exec (.requestFrameReceived ((begin.bytes station).dropLast ++ [0])) (onLine (connected .partner)) with
      | .next t => match exec (.requestFrameReceived (query.bytes station)) t with
        | .next u => some (u.pli.errors, u.pli.buffer, u.pli.halted, (u.node station).errCount)
        | _ => none
      | _ => none) = some (0x0204, [], true, 1) := by decide +kernel

/-- Station 1 with the list of ten items and the limit of 10.7, its cursor at a place. -/
def digested (at' : Nat) : State :=
  State.reset.setNode station { State.reset.node station with
    replyLimit := 64, fixedLength := true, digest := (List.range 10).map (fun i => (9, i)), cursor := at' }

/-- R150, R154: out of the partner's turn a frame cut short takes its own bit, TRUNCATED, and counts. -/
theorem test_out_of_turn :
    (match exec (.frameDiscarded [0x05, 0x10]) (onLine (connected .gx)) with
      | .next t => some (t.pli.errors, t.pli.halted, (t.node station).errCount)
      | _ => none) = some (BitVec.twoPow 16 (errBitNo .truncated), false, 1) := by decide +kernel

/-- R175, the example of 10.7: the counts, the items of the second REPLY, and the cursors after each. -/
theorem test_digest_sections :
    let r := (digested 8).node station
    [10, 5, 46, 293].map r.digestTaken = [8, 9, 2, 0] ∧ (r.digestFrom 8 9).map (·.2) = [8, 9, 0, 1, 2, 3, 4, 5, 6] ∧
      [(0, 10), (8, 5), (7, 46), (9, 293)].map (fun x =>
          (((digested x.1).moveCursor station (64 - x.2)).node station).cursor) = [8, 7, 9, 9] := by decide +kernel

theorem witness_TurnTakesBurst :
    let s := onLine { connected .partner with buffer := [request] }
    s.inReset = false ∧ s.pli.line = .connected ∧ s.pli.conn = some (conn .master .partner) ∧
      (conn .master .partner).kind = .master ∧ (conn .master .partner).turn = .partner ∧
        checkFrame station (sent .turn) = .keep (.ctrl .turn) false ∧
          checkFrame station ((sent .turn).modify 5 (· ^^^ 1)) = .keep (.ctrl .turn) true ∧ (s.node station).digest = [] ∧
          ((digested 2).node station).cursor < ((digested 2).node station).digest.length := by decide +kernel

theorem test_turn :
    (match exec (.turn (sent .turn)) (onLine { connected .partner with buffer := [request], errors := 0x204 }) with
      | .next t => some (t.pli.sending, t.pli.buffer)
      | _ => none) = some ([.reply 1 [5, 0x12], .report 0x204, .turn], []) := by decide +kernel

/-- R152, R158: a TURN with one flipped bit in its header is taken, and HDR_FIXED is reported. -/
theorem test_turn_fixed :
    (match exec (.turn ((sent .turn).modify 5 (· ^^^ 1))) (onLine (connected .partner)) with
      | .next t => t.pli.sending
      | _ => []) = [.report 1, .turn] := by decide +kernel

theorem witness_EndAndSentEvents :
    let s (fs : List OutFrame) := onLine { connected .gx with sending := fs }
    (s []).inReset = false ∧ (onLine { line := .connected }).pli.conn = none ∧
      (onLine { line := .connected }).pli.acking = none ∧ (headerOf (sent .endFrame)).map (·.kind) = some 4 ∧
        (s []).pli.sending = [] ∧ (s [.reply 1 [], .report 1, .turn]).pli.sending = [.reply 1 []] ++ .report 1 :: [.turn] ∧
          (s []).pli.line = .connected ∧ checkFrame station (sent .endFrame) = .keep (.ctrl .endFrame) false ∧
            (s [.slotReply 3 [], .turn]).pli.sending = .slotReply 3 [] :: [.turn] ∧
              (s [.turn]).pli.sending = [] ++ [.turn] ∧ (s [.endFrame]).pli.sending = [] ++ [.endFrame] ∧
                (onLine (connected .partner)).pli.conn = some (conn .master .partner) := by decide +kernel

theorem test_sent_events :
    (match exec .slotReplyDelivered (onLine { connected .gx with sending := [.slotReply 3 [], .turn], delivery := [4, 0] }) with
      | .next t => some (t.pli.delivery, t.pli.sending)
      | _ => none) = some ([4], [.turn]) ∧
    (match exec .replyBurstEndSent (onLine { connected .gx with sending := [.turn] }) with
      | .next t => t.pli.conn.map (fun c => (c.turn, c.bursts, c.deadline))
      | _ => none) = some (.partner, 1, some 50) := by decide +kernel

/-- The PLI selecting station 1 for a reply. -/
def selecting : State :=
  (onLine { line := .selecting, winner := some 0, conn := some (conn .reselection .gx), delivery := [station],
            selectDeadline := some 5 }).setSlot station (.deliverable answer)

theorem witness_ReselectionDelivers :
    let won := onLine { line := .selecting, winner := some 0, delivery := [station] }
    won.inReset = false ∧ won.pli.line = .selecting ∧ won.pli.winner = some 0 ∧ won.pli.conn = none ∧
      won.pli.acking = none ∧ won.pli.delivery.head? = some station ∧ State.reset.pli.delivery = [] ∧
        selecting.pli.line = .selecting ∧ selecting.pli.conn = some (conn .reselection .gx) ∧ headerOf [0] = none ∧
          (headerOf (ctrlBytes other .selectAck)).map (·.sender) = some 2 ∧
            headerOf (sent .selectAck) = some { kind := 2, sender := 1, receiver := 0, tag := 0, arg := 0 } ∧
              (selecting.node station).slot.reply? = some answer ∧ selecting.pli.selectDeadline = some 5 ∧
                max 0 4 < 5 ∧ 5 ≤ max 0 5 ∧ (selecting.node station).slot = .deliverable answer ∧
                  (selecting.node station).digest = [] ∧ (onLine { line := .selecting }).pli.conn = none ∧
                    (onLine { line := .selecting }).pli.acking = none ∧
                      (onLine { line := .selecting, acking := some 0 }).pli.acking ≠ none ∧
                        (headerOf (sent .endFrame)).map (·.kind) = some 4 ∧
                    ((digested 2).node station).cursor < ((digested 2).node station).digest.length := by decide +kernel

theorem test_reselection :
    (match exec (.selectAck (sent .selectAck)) selecting with
      | .next t => some (t.pli.sending, (t.node station).presence)
      | _ => none) = some ([.slotReply 3 [11, 0x12], .endFrame], .present) ∧
    (match exec (.reselectionTimeout 5) selecting with
      | .next t => some ((t.node station).slot, t.pli.line, t.pli.delivery)
      | _ => none) = some (.held answer, .free, []) := by decide +kernel

theorem witness_LineAbandoned :
    let held := (onLine { connected .gx with sending := [.slotReply 3 [], .turn] }).setSlot station (.held answer)
    State.reset.inReset = false ∧ (onLine { line := .resetting }).pli.line = .resetting ∧ State.reset.pli.line = .free ∧
      State.reset.pli.conn = none ∧ (onLine { line := .selecting }).pli.line = .selecting ∧
        (onLine (connected .partner)).pli.conn = some (conn .master .partner) ∧ (connected .partner).line = .connected ∧
          (conn .master .gx).turn = .gx ∧ (conn .master .partner).deadline = some 50 ∧ max 0 49 < 50 ∧ 50 ≤ max 0 50 ∧
            ((onLine (connected .partner)).node station).slot = .empty ∧ (held.node station).slot = .held answer ∧
              held.pli.sending.any OutFrame.isSlotReply = true ∧ held.pli.conn = some (conn .master .gx) := by
  decide +kernel

/-- The slot of a partner that holds nothing is HELD for no reply. -/
theorem witness_LineAbandoned_unheld (x : SlotReply) : ((onLine (connected .partner)).node station).slot ≠ .held x := by
  rw [show ((onLine (connected .partner)).node station).slot = .empty by decide +kernel]
  exact Slot.noConfusion

/-- R157: an idle timeout in the PLI's own connection abandons it and holds the claim pair 2 ms. -/
theorem test_line_idle :
    (match exec (.lineIdleTimeout 100) (onLine { connected .partner with buffer := [request], errors := 0x204 }) with
      | .next t => some (t.pli, t.pending)
      | _ => none) = some ({ line := .resetting, claimHold := some 102 }, []) := by decide +kernel

theorem test_line_reset :
    (match exec (.lineReset true) (onLine (connected .partner)) with
      | .next t => some (t.pli.line, (t.node station).errCount)
      | _ => none) = some (.resetting, 1) ∧
    (match exec .lineResetRelease (onLine { line := .resetting }) with
      | .next t => some (t.pli.line, (t.alarms.recs[alarmIx .lineReset]).count)
      | _ => none) = some (.free, 1) := by decide +kernel

/-! ## Witnesses: power-on, headlines and invariants -/

theorem witness_ResetCommands :
    (assertReset State.reset).inReset = true ∧ State.reset.inReset = false ∧ State.reset.store.recs[0].good = true ∧
      State.reset.store.recs[0].contents = .cleared ∧ (writing State.reset).store.op.writes 0 = true := by decide +kernel

/-- R40: a record whose write was cut short fails its check at the next power-on, and STORE_LOST is counted. -/
theorem test_power_on :
    (match exec .powerOn (writing (plant .ready)) with
      | .next t => some ((t.bay 0).state, (t.alarms.recs[alarmIx .storeLost]).count, (t.alarms.recs[alarmIx .powerOn]).count)
      | _ => none) = some (.absent, 1, 1) := by decide +kernel

theorem witness_HeaderCodeCorrects : (0 : Fin 48) ≠ 47 := by decide

theorem witness_RequestFramesRoundTrip :
    (Instr.setDigest station 255 [(1, 7)]).wf = true ∧ (frameOf (.setDigest station 255 [(1, 7)])).isSome = true ∧
      State.reset.inReset = false := by decide +kernel

theorem witness_records_sound : UnitsOk fed ∧ BatchesOk fed ∧ SettingsOk fed := by decide +kernel
theorem witness_weighing_sound : WeighOk fed ∧ LineOk fed := by decide +kernel

theorem witness_step_next : ∃ t, step fed = .next t := ⟨tick fed, rfl⟩

/-- The premises of the invariants that need others beside them, met together. -/
theorem witness_BatchesStayInPhase : SlotsOk fed ∧ FeedsOk fed ∧ PhaseOk fed ∧ ∃ t, step fed = .next t :=
  ⟨witness_fed_slots, witness_fed_feeds, by decide +kernel, witness_step_next⟩

end Sys2Proof.Tests
end

section
namespace Sys2Proof.Machine

/-! ## The split of a batch gain (R108, R109) -/

/-- Cabinet `j` ranks before cabinet `i`: a larger remainder, or an equal one admitted earlier (R108, step 3). -/
abbrev RanksBefore (rems : List Nat) (j i : Nat) : Prop :=
  rems.getD i 0 < rems.getD j 0 ∨ (rems.getD j 0 = rems.getD i 0 ∧ j < i)

/-- The rank of a cabinet is the number of the cabinets that rank before it. -/
theorem splitRank_eq_card (rems : List Nat) (i : Nat) :
    splitRank rems i = ((Finset.range rems.length).filter (RanksBefore rems · i)).card := by
  have counted : ((Finset.range rems.length).filter (RanksBefore rems · i)).card
      = ((List.range rems.length).filter (fun j => decide (RanksBefore rems j i))).length := rfl
  simp [counted, splitRank, Bool.decide_or, Bool.decide_and]

/-- A cabinet before another has the smaller rank: all that rank before it rank before the other too. -/
theorem splitRank_lt_of_ranksBefore (rems : List Nat) {j i : Nat} (hj : j < rems.length) (h : RanksBefore rems j i) :
    splitRank rems j < splitRank rems i := by
  rw [splitRank_eq_card, splitRank_eq_card]
  refine Finset.card_lt_card (Finset.ssubset_iff_of_subset ?_ |>.mpr ⟨j, ?_, ?_⟩)
  · intro k hk
    rw [Finset.mem_filter] at hk ⊢
    obtain ⟨hk, before⟩ := hk
    exact ⟨hk, by omega⟩
  · simp [hj, h]
  · simp [RanksBefore]

/-- A rank is a place among the cabinets, since none ranks before itself. -/
theorem splitRank_lt_length (rems : List Nat) {i : Nat} (hi : i < rems.length) : splitRank rems i < rems.length := by
  rw [splitRank_eq_card]
  calc _ < (Finset.range rems.length).card := by
        refine Finset.card_lt_card (Finset.filter_ssubset.mpr ⟨i, by simpa using hi, ?_⟩)
        simp [RanksBefore]
    _ = rems.length := Finset.card_range _

/-- Two cabinets never share a rank. -/
theorem splitRank_injOn (rems : List Nat) : Set.InjOn (splitRank rems) (Finset.range rems.length) := by
  intro i hi j hj h
  have hi : i < rems.length := by simpa using hi
  have hj : j < rems.length := by simpa using hj
  by_contra hne
  have total : RanksBefore rems i j ∨ RanksBefore rems j i := by omega
  obtain before | before := total
  · exact absurd h (splitRank_lt_of_ranksBefore rems hi before).ne
  · exact absurd h (splitRank_lt_of_ranksBefore rems hj before).ne'

/-- The ranks are the places 0 to n - 1 in some order, so as many cabinets get the extra gram as the residue counts. -/
theorem sum_extra_grams (rems : List Nat) {r : Nat} (hr : r ≤ rems.length) :
    ((List.range rems.length).map (fun i => if splitRank rems i < r then 1 else 0)).sum = r := by
  have maps : Set.MapsTo (splitRank rems) (Finset.range rems.length) (Finset.range rems.length) := by
    intro i hi
    simpa using splitRank_lt_length rems (by simpa using hi)
  have onto := Finset.surjOn_of_injOn_of_card_le (splitRank rems) maps (splitRank_injOn rems) le_rfl
  calc _ = ∑ i ∈ Finset.range rems.length, (if splitRank rems i < r then 1 else 0) := rfl
    _ = ∑ k ∈ Finset.range rems.length, (if k < r then 1 else 0) :=
        Finset.sum_nbij (splitRank rems) maps (splitRank_injOn rems) onto (fun _ _ => rfl)
    _ = ((Finset.range rems.length).filter (· < r)).card := (Finset.card_filter _ _).symm
    _ = (Finset.range r).card := by
        congr 1
        ext k
        simp only [Finset.mem_filter, Finset.mem_range]
        omega
    _ = r := Finset.card_range r

/-- The base shares, each rounded down, fall short of the whole by less than one gram a cabinet (R108, step 2). -/
theorem base_shares_bounds (total sumW : Nat) (hS : 0 < sumW) (weights : List Nat) :
    sumW * (weights.map (fun w => total * w / sumW)).sum ≤ total * weights.sum ∧
      total * weights.sum ≤ sumW * (weights.map (fun w => total * w / sumW)).sum + sumW * weights.length := by
  induction weights with
  | nil => simp
  | cons w rest ih =>
    obtain ⟨lower, upper⟩ := ih
    have whole := Nat.div_add_mod (total * w) sumW
    have less := Nat.mod_lt (total * w) hS
    simp only [List.map_cons, List.sum_cons, List.length_cons, Nat.mul_add, Nat.mul_one]
    omega

/-- The shares of a split add up to its total (R109). -/
theorem splitShares_sum (total : Nat) (weights : List Nat) (h : 0 < weights.sum) :
    (splitShares total weights).sum = total := by
  obtain ⟨lower, upper⟩ := base_shares_bounds total weights.sum h weights
  rw [Nat.mul_comm total] at lower upper
  have lower := Nat.le_of_mul_le_mul_left lower h
  have upper := Nat.le_of_mul_le_mul_left (upper.trans_eq (Nat.mul_add ..).symm) h
  have extra := sum_extra_grams (weights.map (splitRemainder total weights.sum))
    (r := total - (weights.map (fun w => total * w / weights.sum)).sum) (by simp; omega)
  have places : (List.range weights.length).map (fun i => (weights.map (fun w => total * w / weights.sum)).getD i 0)
      = weights.map (fun w => total * w / weights.sum) := by
    apply List.ext_getElem
    · simp
    · intro i hi _
      simp only [List.length_map, List.length_range] at hi
      simp [hi]
  rw [List.length_map] at extra
  simp only [splitShares, List.sum_map_add, extra, places]
  omega

theorem splitShares_length (total : Nat) (weights : List Nat) :
    (splitShares total weights).length = weights.length := by
  simp [splitShares]

/-- Shares written into the cabinets are read back (R113). -/
theorem shares_zipWith (cs : List Cabinet) (shares : List Nat) (h : shares.length = cs.length) :
    (List.zipWith (fun c sh => { c with share := some sh }) cs shares).map (fun c : Cabinet => c.share.getD 0) = shares := by
  apply List.ext_getElem <;> simp [h]

/-- A batch whose cabinets each weigh at least 1 g adds up once completed (R109, R110). -/
theorem complete_addsUp (bt : Batch) (p : Params) (h : ∀ c ∈ bt.cabinets, 1 ≤ c.weight) : (bt.complete p).addsUp := by
  refine ⟨rfl, ?_⟩
  have shares := shares_zipWith bt.cabinets (splitShares (batchGain bt.segments) (bt.cabinets.map (·.weight)))
    (by simp [splitShares_length])
  simp only [Batch.complete, shares, Option.getD_some]
  cases hc : bt.cabinets with
  | nil => simp [splitShares]
  | cons c rest =>
    have positive : 0 < (bt.cabinets.map (·.weight)).sum := by
      have := h c (by simp [hc])
      simp only [hc, List.map_cons, List.sum_cons]
      omega
    rw [← hc, splitShares_sum _ _ positive]
    simp [hc]

/-! ## Units and batches through the shared operations -/

/-- From `s` to `t` the unit records stay sound, and so do the batches. -/
def KeepsRecords (s t : State) : Prop := (UnitsOk s → UnitsOk t) ∧ (BatchesOk s → BatchesOk t)

theorem KeepsRecords.refl (s : State) : KeepsRecords s s := ⟨id, id⟩

theorem KeepsRecords.trans {s t u : State} (h : KeepsRecords s t) (k : KeepsRecords t u) : KeepsRecords s u :=
  ⟨k.1 ∘ h.1, k.2 ∘ h.2⟩

/-- What writes neither a unit nor a batch keeps both sound. -/
theorem KeepsRecords.frame {s t u : State} (h : KeepsRecords s t) (hu : u.units = t.units) (hb : u.batches = t.batches) :
    KeepsRecords s u := by
  refine h.trans ⟨fun ok => ?_, fun ok => ?_⟩
  · simpa only [UnitsOk, hu] using ok
  · simpa only [BatchesOk, State.line, hb] using ok

theorem KeepsRecords.setBay {s t : State} (h : KeepsRecords s t) (b : BayIx) (r : Bay) :
    KeepsRecords s (t.setBay b r) := h.frame rfl rfl
theorem KeepsRecords.setChannel {s t : State} (h : KeepsRecords s t) (b : BayIx) (r : Channel) :
    KeepsRecords s (t.setChannel b r) := h.frame rfl rfl
theorem KeepsRecords.setFeed {s t : State} (h : KeepsRecords s t) (b : BayIx) (r : Option Feed) :
    KeepsRecords s (t.setFeed b r) := h.frame rfl rfl
theorem KeepsRecords.setNode {s t : State} (h : KeepsRecords s t) (n : Node) (r : NodeRec) :
    KeepsRecords s (t.setNode n r) := h.frame rfl rfl
theorem KeepsRecords.setPli {s t : State} (h : KeepsRecords s t) (p : Pli) : KeepsRecords s (t.setPli p) :=
  h.frame rfl rfl
theorem KeepsRecords.alarm {s t : State} (h : KeepsRecords s t) (k : AlarmKind) (x : Option Nat) (v : Int) :
    KeepsRecords s (t.alarm k x v) := h.frame rfl rfl

/-- A fold of steps that each keep the records keeps them. -/
theorem KeepsRecords.foldl {α : Type} {f : State → α → State} (h : ∀ t x, KeepsRecords t (f t x)) (xs : List α)
    (s : State) : KeepsRecords s (xs.foldl f s) := by
  induction xs generalizing s with
  | nil => exact .refl s
  | cons x xs ih => exact (h s x).trans (ih (f s x))

/-! ### Rewriting a unit or a line -/

/-- A rewriting that a sound unit record survives: the tag stands, the figures stay in range, and the unit is bound
afterwards only where it was bound before. -/
structure KeepsUnit (f : UnitRec → UnitRec) : Prop where
  tag : ∀ u, (f u).tag = u.tag
  inRange : ∀ u, u.inRange → (f u).inRange
  bound : ∀ u, (f u).state = .degassing → u.state = .degassing ∧ (f u).station = u.station

/-- Records rewritten one by one stay sound where each rewriting is one a sound record survives. -/
theorem unitsOk_map {s : State} (f : UnitRec → UnitRec) (hf : KeepsUnit f) (h : UnitsOk s) :
    UnitsOk (s.setUnits (s.units.map f)) := by
  obtain ⟨tags, size, range, bound⟩ := h
  have sameTags : (s.units.map f).map (·.tag) = s.units.map (·.tag) := by
    rw [List.map_map]
    exact List.map_congr_left (fun u _ => hf.tag u)
  refine ⟨by simpa only [State.setUnits_units, sameTags] using tags, by simpa using size, ?_, ?_⟩
  · intro v hv
    obtain ⟨u, hu, rfl⟩ := List.mem_map.mp hv
    exact hf.inRange u (range u hu)
  · intro v hv v' hv' deg deg' same
    obtain ⟨u, hu, rfl⟩ := List.mem_map.mp hv
    obtain ⟨u', hu', rfl⟩ := List.mem_map.mp hv'
    obtain ⟨was, station⟩ := hf.bound u deg
    obtain ⟨was', station'⟩ := hf.bound u' deg'
    rw [hf.tag, hf.tag]
    exact bound u hu u' hu' was was' (by rw [← station, ← station', same])

theorem KeepsRecords.modUnit {s t : State} (h : KeepsRecords s t) (tag : Nat) {f : UnitRec → UnitRec} (hf : KeepsUnit f) :
    KeepsRecords s (t.modUnit tag f) := by
  refine h.trans ⟨unitsOk_map _ ⟨fun u => ?_, fun u => ?_, fun u => ?_⟩, id⟩ <;> split
  · exact hf.tag u
  · rfl
  · exact hf.inRange u
  · exact id
  · exact hf.bound u
  · exact fun deg => ⟨deg, rfl⟩

/-- A line is sound: its previous slot adds up, and the cabinets of its current slot each weigh something. -/
structure LineRec.Sound (r : LineRec) : Prop where
  previous : ∀ b ∈ r.previous, b.addsUp
  current : ∀ b ∈ r.current, ∀ c ∈ b.cabinets, 1 ≤ c.weight

theorem batchesOk_iff (s : State) : BatchesOk s ↔ (∀ k : Fin 20, 1 ≤ s.batches.expect[k]) ∧ ∀ l, (s.line l).Sound :=
  and_congr_right fun _ => forall_congr' fun _ => ⟨fun ⟨p, c⟩ => ⟨p, c⟩, fun ⟨p, c⟩ => ⟨p, c⟩⟩

theorem line_sound {s : State} (ok : BatchesOk s) (l : FoamLine) : (s.line l).Sound := ((batchesOk_iff s).mp ok).2 l

/-- A line that is written sound keeps the batches sound. -/
theorem KeepsRecords.setLine {s t : State} (h : KeepsRecords s t) (l : FoamLine) {r : LineRec}
    (hr : BatchesOk t → r.Sound) : KeepsRecords s (t.setLine l r) := by
  refine h.trans ⟨id, fun ok => ?_⟩
  obtain ⟨expect, lines⟩ := (batchesOk_iff t).mp ok
  refine (batchesOk_iff _).mpr ⟨expect, fun m => ?_⟩
  by_cases e : m = l
  · subst e
    simpa using hr ok
  · rw [State.setLine_line_ne t l r m e]
    exact lines m

/-- A current batch rewritten with its cabinets as they are stays sound. -/
theorem KeepsRecords.modCurrent {s t : State} (h : KeepsRecords s t) (l : FoamLine) {f : Batch → Batch}
    (hf : ∀ b, (f b).cabinets = b.cabinets) : KeepsRecords s (t.modCurrent l f) := by
  refine h.setLine l (fun ok => ?_)
  obtain ⟨previous, current⟩ := line_sound ok l
  refine ⟨previous, fun b hb => ?_⟩
  obtain ⟨b₀, hb₀, rfl⟩ := Option.map_eq_some_iff.mp hb
  rw [hf]
  exact current b₀ hb₀

/-- A current batch changes its state. -/
theorem KeepsRecords.batchState {s t : State} (h : KeepsRecords s t) (l : FoamLine) (st : BatchState) :
    KeepsRecords s (t.modCurrent l (fun b => { b with state := st })) :=
  h.modCurrent l (fun _ => rfl)

/-! ### Slots, grants and the Wait List -/

theorem KeepsRecords.releaseDeferred {s t : State} (h : KeepsRecords s t) (n : Node) (k : ReqKind) (b : Body) :
    KeepsRecords s (t.releaseDeferred n k b) := by
  obtain ⟨tag, -, e⟩ | ⟨-, e⟩ := releaseDeferred_cases t n k b
  · rw [e]; exact h.frame rfl rfl
  · rwa [e]

theorem KeepsRecords.enterService {s t : State} (h : KeepsRecords s t) (b : BayIx) :
    KeepsRecords s (t.enterService b) := by
  obtain ⟨-, e⟩ | ⟨-, e⟩ := enterService_cases t b <;> rw [e] <;> exact h.frame rfl rfl

theorem KeepsRecords.grant {s t : State} (h : KeepsRecords s t) (b : BayIx) (n : Node) (w : WaitPurpose) (g : GasClass) :
    KeepsRecords s (t.grant b n w g) := by
  rw [grant_spec]
  cases w with
  | unit tag => exact h.frame rfl rfl
  | batch l number => exact (h.frame rfl rfl).modCurrent l (fun _ => rfl)

theorem KeepsRecords.scan {s t : State} (h : KeepsRecords s t) (b : BayIx) : KeepsRecords s (t.scan b) := by
  obtain ⟨-, e⟩ | ⟨e', -, e⟩ := scan_cases t b
  · rwa [e]
  · rw [e]
    exact ((h.frame rfl rfl : KeepsRecords s (t.dropEntry e'.node)).grant b e'.node e'.purpose e'.cls).frame rfl rfl

theorem KeepsRecords.readyOrFull {s t : State} (h : KeepsRecords s t) (b : BayIx) :
    KeepsRecords s (t.readyOrFull b) := by
  obtain ⟨-, e⟩ | ⟨-, e⟩ := readyOrFull_cases t b
  · rw [e]; exact (h.setBay b _).scan b
  · rw [e]; exact h.frame rfl rfl

theorem KeepsRecords.stallWaiting {s t : State} (h : KeepsRecords s t) (w : WaitPurpose) :
    KeepsRecords s (t.stallWaiting w) := by
  cases w with
  | unit tag => exact h
  | batch l number => exact h.batchState l .stalled

theorem KeepsRecords.endEntry {s t : State} (h : KeepsRecords s t) (e : WaitEntry) (st : Status) :
    KeepsRecords s (t.endEntry e st) :=
  (h.frame rfl rfl : KeepsRecords s (t.removed e st)).stallWaiting e.purpose

theorem KeepsRecords.purge {s t : State} (h : KeepsRecords s t) (which : WaitEntry → Bool) (st : Status) :
    KeepsRecords s (t.purge which st) := by
  refine h.trans (KeepsRecords.foldl (fun t n => ?_) _ t)
  split
  · split
    · exact (KeepsRecords.refl t).endEntry _ st
    · exact .refl t
  · exact .refl t

/-! ### Bookings and completions -/

/-- The share of a cabinet closes its unit (R18). -/
theorem keepsUnit_share (share : Option Nat) : KeepsUnit (fun u => { u with state := .closed, foamShare := share }) := by
  refine ⟨fun _ => rfl, fun u range => ?_, fun _ => nofun⟩
  obtain ⟨low, high, recovered, feeds, aborts, ratio, -⟩ := range
  exact ⟨low, high, recovered, feeds, aborts, ratio, nofun⟩

/-- A booking saturates its sums (R10). -/
theorem keepsUnit_book (g : GainResult) : KeepsUnit (·.book g) := by
  refine ⟨fun _ => rfl, fun u range => ?_, fun _ deg => ⟨deg, rfl⟩⟩
  obtain ⟨low, high, -, -, aborts, ratio, station⟩ := range
  exact ⟨low, high, min_le_left _ _, min_le_left _ _, aborts, ratio, station⟩

theorem KeepsRecords.writeShares {s t : State} (h : KeepsRecords s t) (cs : List Cabinet) :
    KeepsRecords s (t.writeShares cs) := by
  unfold State.writeShares
  exact h.trans (KeepsRecords.foldl (fun t c => (KeepsRecords.refl t).modUnit c.tag (keepsUnit_share c.share)) cs t)

/-- A completion moves a batch that adds up to the previous slot (R109, R130). -/
theorem KeepsRecords.batchDone {s t : State} (h : KeepsRecords s t) (l : FoamLine) {bt : Batch}
    (current : (t.line l).current = some bt) : KeepsRecords s (t.batchDone l bt) := by
  have moved : KeepsRecords s (t.setLine l { t.line l with current := none, previous := some (bt.done t.params) }) := by
    refine h.setLine l (fun ok => ⟨fun b hb => ?_, nofun⟩)
    obtain rfl : bt.done t.params = b := by simpa using hb
    rw [← complete_eq_done]
    exact complete_addsUp bt t.params ((line_sound ok l).current bt current)
  have closed := moved.writeShares (bt.done t.params).cabinets
  rw [writeShares_eq] at closed
  unfold State.batchDone
  dsimp only
  split
  · exact closed.frame rfl rfl
  split
  · exact closed.frame rfl rfl
  · exact closed

theorem KeepsRecords.completeBatch {s t : State} (h : KeepsRecords s t) (l : FoamLine) :
    KeepsRecords s (t.completeBatch l) := by
  cases current : (t.line l).current with
  | none => simpa only [State.completeBatch, current] using h
  | some bt =>
    rw [completeBatch_eq_batchDone t l bt current]
    exact (h.batchDone l current).releaseDeferred _ _ _

theorem KeepsRecords.bookToRecord {s t : State} (h : KeepsRecords s t) (p : FeedPurpose) (g : GainResult) :
    KeepsRecords s (t.bookToRecord p g) := by
  cases p with
  | unit tag => exact h.modUnit tag (keepsUnit_book g)
  | batch l number k =>
    have booked : KeepsRecords s (t.modCurrent l (·.bookSegment k g)) := h.modCurrent l (fun _ => rfl)
    unfold State.bookToRecord State.bookToBatch
    dsimp only
    split
    · exact h
    split
    · split
      · exact booked.completeBatch l
      · exact booked
    · exact h

theorem KeepsRecords.bookGain {s t : State} (h : KeepsRecords s t) (b : BayIx) (f : Feed) (g : GainResult) :
    KeepsRecords s (t.bookGain b f g) := by
  have told : KeepsRecords s (((t.bookToRecord f.purpose g).setFeed b (some { f with booked := true })).modOutcome
      f.owner (fun o => { o with settled := true, gain := some g.gain, estimated := g.estimated })) :=
    (h.bookToRecord f.purpose g).frame rfl rfl
  unfold State.bookGain
  dsimp only
  split
  · exact told.releaseDeferred _ _ _
  · exact told

theorem KeepsRecords.bookByEstimate {s t : State} (h : KeepsRecords s t) (b : BayIx) :
    KeepsRecords s (t.bookByEstimate b) := by
  obtain ⟨-, e⟩ | ⟨f, -, -, e⟩ := bookByEstimate_cases t b
  · rwa [e]
  · rw [e]; exact (h.setBay b _).bookGain b _ _

theorem KeepsRecords.leaveClosing {s t : State} (h : KeepsRecords s t) (b : BayIx) :
    KeepsRecords s (t.leaveClosing b) := by
  obtain e | ⟨-, -, -, e⟩ := leaveClosing_cases t b
  · rwa [e]
  · rw [e]; exact (h.setFeed b none).enterService b

theorem KeepsRecords.takeSettledNet {s t : State} (h : KeepsRecords s t) (b : BayIx) (net : Nat) :
    KeepsRecords s (t.takeSettledNet b net) := by
  unfold State.takeSettledNet
  dsimp only
  split <;> exact h.frame rfl rfl

/-- A reading delivered by its purpose keeps the records (R59). -/
theorem KeepsRecords.deliverReading {s t : State} (h : KeepsRecords s t) (b : BayIx) (p : WindowPurpose) (gross : Nat)
    (unstable : Bool) : KeepsRecords s (t.deliverReading b p gross unstable) := by
  cases p with
  | baseline =>
    unfold State.deliverReading State.deliverBaseline
    dsimp only
    split
    · exact (h.takeSettledNet b _).readyOrFull b
    · exact h
  | feedEnd =>
    unfold State.deliverReading State.deliverFeedEnd
    dsimp only
    split
    · exact h
    rename_i f _
    split
    · exact h
    have netted := h.takeSettledNet b ((t.bay b).settledNet gross)
    refine (((?_ : KeepsRecords s _).bookGain b f _).setFeed b none).readyOrFull b
    split
    · exact netted.alarm _ _ _
    · exact netted
  | zeroCapture => exact h

/-! ### Ends of feeds -/

theorem KeepsRecords.endOfSegment {s t : State} (h : KeepsRecords s t) (p : FeedPurpose) (c : EndCause) :
    KeepsRecords s (t.endOfSegment p c) := by
  cases p with
  | unit tag => exact h
  | batch l number k =>
    refine h.modCurrent l (fun bt => ?_)
    split <;> rfl

theorem KeepsRecords.endFeed {s t : State} (h : KeepsRecords s t) (b : BayIx) (c : EndCause) :
    KeepsRecords s (t.endFeed b c) := by
  unfold State.endFeed
  split
  · exact h
  rename_i f _
  split
  · have alarmed : KeepsRecords s ((((t.setFeed b (some (f.ended c))).closeBay b).modOutcome f.owner
        (fun o => { o with endCause := some c, settled := false })).endAlarm f.owner c) := by
      cases c <;> exact h.frame rfl rfl
    have told := alarmed.endOfSegment f.purpose c
    dsimp only
    split
    · split
      · exact told.frame rfl rfl
      · exact told
    · exact (told.bookByEstimate b).leaveClosing b
  · exact h

theorem KeepsRecords.endFeeds {s t : State} (h : KeepsRecords s t) (which : GasClass → Bool) (c : EndCause) :
    KeepsRecords s (t.endFeeds which c) := by
  refine h.trans (KeepsRecords.foldl (fun t n => ?_) _ t)
  split
  · split
    · exact (KeepsRecords.refl t).endFeed _ c
    · exact .refl t
  · exact .refl t

/-- An interlock event, with the permit drop it may bring, keeps the records (R136, R138). -/
theorem KeepsRecords.setInterlock {s t : State} (h : KeepsRecords s t) (i : Interlock) :
    KeepsRecords s (t.setInterlock i) := by
  have written : KeepsRecords s { t with interlock := i } := h.frame rfl rfl
  unfold State.setInterlock
  dsimp only
  split
  · exact ((written.endFeeds flammable .interlock).purge (fun e => flammable e.cls) .permitOff).alarm .permitDropped none 0
  · exact written

/-! ## Units and batches through the requests -/

/-! ### Unit requests (Chapter 1) -/

theorem tagInRange_iff (unit : Nat) : tagInRange unit = true ↔ 1 ≤ unit ∧ unit ≤ 99999999 := by
  simp [tagInRange]

theorem unit?_eq_none (s : State) (unit : Nat) : s.unit? unit = none ↔ ∀ u ∈ s.units, u.tag ≠ unit := by
  simp [State.unit?]

theorem boundUnit_eq_none (s : State) (n : Node) :
    s.boundUnit n = none ↔ ∀ u ∈ s.units, u.state = .degassing → u.station ≠ some n := by
  simp [State.boundUnit]

/-- A new record with a free tag in range is one record more (R5). -/
theorem unitsOk_append {s : State} {unit : Nat} (cat : Category) (refr charge foam : Nat) (range : 1 ≤ unit ∧ unit ≤ 99999999)
    (free : s.unit? unit = none) (room : s.units.length < 96) (h : UnitsOk s) :
    UnitsOk (s.setUnits (s.units ++ [newUnit unit cat refr charge foam])) := by
  obtain ⟨tags, -, ranges, bound⟩ := h
  obtain ⟨low, high⟩ := range
  have free := (unit?_eq_none s unit).mp free
  have idle : (newUnit unit cat refr charge foam).state ≠ .degassing := nofun
  refine ⟨?_, by simp; omega, ?_, ?_⟩
  · simp only [State.setUnits_units, List.map_append, List.map_cons, List.map_nil]
    refine List.nodup_append.mpr ⟨tags, List.nodup_singleton _, ?_⟩
    simpa [newUnit] using fun u hu => free u hu
  · intro u hu
    obtain hu | hu := List.mem_append.mp hu
    · exact ranges u hu
    · obtain rfl := List.mem_singleton.mp hu
      exact ⟨low, high, Nat.zero_le _, Nat.zero_le _, Nat.zero_le _, nofun, nofun⟩
  · have old {u : UnitRec} (hu : u ∈ s.units ++ [newUnit unit cat refr charge foam]) (deg : u.state = .degassing) :
        u ∈ s.units := by
      obtain hu | hu := List.mem_append.mp hu
      · exact hu
      · exact absurd deg (List.mem_singleton.mp hu ▸ idle)
    exact fun u hu v hv deg deg' => bound u (old hu deg) v (old hv deg') deg deg'

theorem ownAnnounce_keepsRecords (s : State) (unit category refr charge foam : Nat) :
    KeepsRecords s (ownAnnounce unit category refr charge foam s).state := by
  unfold ownAnnounce
  split
  · exact .refl s
  split
  · exact .refl s
  split
  · exact .refl s
  split
  · exact (KeepsRecords.refl s).alarm _ _ _
  rename_i args free room
  have range : tagInRange unit = true := by
    by_contra out
    simp [out] at args
  exact ⟨unitsOk_append _ _ _ _ ((tagInRange_iff unit).mp range) (by simpa using free) (by omega), id⟩

/-- A unit is bound to a station that no unit is bound to (R7, R8). -/
theorem unitsOk_bind {s : State} {n : Node} (unit : Nat) (g : GasClass) (mismatch : Bool) (free : s.boundUnit n = none)
    (h : UnitsOk s) :
    UnitsOk (s.modUnit unit (fun v => { v with
      state := .degassing, station := some n, identRefr := some g,
      marks := { v.marks with classMismatch := v.marks.classMismatch || mismatch } })) := by
  obtain ⟨tags, size, ranges, bound⟩ := h
  have free := (boundUnit_eq_none s n).mp free
  have sameTags := modUnit_tags s unit (fun v => { v with
      state := .degassing, station := some n, identRefr := some g,
      marks := { v.marks with classMismatch := v.marks.classMismatch || mismatch } }) (fun _ => rfl)
  refine ⟨sameTags ▸ tags, by simpa [modUnit_spec] using size, ?_, ?_⟩
  · intro v hv
    obtain ⟨u, hu, rfl⟩ := List.mem_map.mp hv
    obtain ⟨low, high, recovered, feeds, aborts, ratio, station⟩ := ranges u hu
    split
    · exact ⟨low, high, recovered, feeds, aborts, ratio, nofun⟩
    · exact ⟨low, high, recovered, feeds, aborts, ratio, station⟩
  · intro v hv v' hv' deg deg' same
    obtain ⟨u, hu, rfl⟩ := List.mem_map.mp hv
    obtain ⟨u', hu', rfl⟩ := List.mem_map.mp hv'
    by_cases e : u.tag = unit <;> by_cases e' : u'.tag = unit <;>
      simp only [e, e', if_true, if_false] at deg deg' same ⊢
    · exact absurd same.symm (free u' hu' deg')
    · exact absurd same (free u hu deg)
    · exact bound u hu u' hu' deg deg' same

theorem ownDegasBegin_keepsRecords (s : State) (n : Node) (unit cls : Nat) :
    KeepsRecords s (ownDegasBegin n unit cls s).state := by
  unfold ownDegasBegin
  split
  · exact .refl s
  split
  · exact .refl s
  split
  · exact .refl s
  split
  · exact .refl s
  rename_i u _ allowed
  have free : s.boundUnit n = none := by
    by_contra taken
    exact allowed (.inl (Option.isSome_iff_ne_none.mpr taken))
  have bound : ∀ g mismatch, KeepsRecords s _ := fun g mismatch => ⟨unitsOk_bind unit g mismatch free, id⟩
  dsimp only
  split
  · split
    · exact (bound _ _).alarm _ _ _
    · exact bound _ _
  · exact bound _ false

theorem recoveryRatio_le (recovered charge : Nat) : recoveryRatio recovered charge ≤ 2000 := min_le_left _ _

theorem recoveryCheck_le (s : State) (u : UnitRec) : ∀ r ∈ (recoveryCheck s u).1, r ≤ 2000 := by
  intro r hr
  unfold recoveryCheck at hr
  split at hr
  · simp at hr
  · obtain rfl := Option.mem_some_iff.mp hr
    exact recoveryRatio_le _ _

/-- The three ends of a degassing unbind the unit (R12 to R15). -/
theorem keepsUnit_completed (s : State) : KeepsUnit (completedUnit s) := by
  refine ⟨fun _ => rfl, fun u range => ?_, fun _ => nofun⟩
  obtain ⟨low, high, recovered, feeds, aborts, -, -⟩ := range
  exact ⟨low, high, recovered, feeds, aborts, recoveryCheck_le s u, nofun⟩

theorem keepsUnit_empty : KeepsUnit emptyUnit := by
  refine ⟨fun _ => rfl, fun u range => ?_, fun _ => nofun⟩
  obtain ⟨low, high, recovered, feeds, aborts, ratio, -⟩ := range
  exact ⟨low, high, recovered, feeds, aborts, ratio, nofun⟩

theorem keepsUnit_aborted : KeepsUnit abortedUnit := by
  refine ⟨fun _ => rfl, fun u range => ?_, fun _ => nofun⟩
  obtain ⟨low, high, recovered, feeds, -, ratio, -⟩ := range
  exact ⟨low, high, recovered, feeds, min_le_left _ _, ratio, nofun⟩

theorem endComplete_keepsRecords (s : State) (u : UnitRec) : KeepsRecords s (endComplete s u).state := by
  have ended := (KeepsRecords.refl s).modUnit u.tag (keepsUnit_completed s)
  unfold endComplete
  dsimp only
  split
  · exact ended.alarm _ _ _
  · exact ended

theorem ownDegasEnd_keepsRecords (s : State) (n : Node) (outcome : Nat) :
    KeepsRecords s (ownDegasEnd n outcome s).state := by
  unfold ownDegasEnd
  split
  · exact .refl s
  split
  · exact .refl s
  rename_i u _
  split
  · exact .refl s
  split
  · exact endComplete_keepsRecords s u
  split
  · split
    · exact (KeepsRecords.refl s).modUnit u.tag keepsUnit_empty
    · exact endComplete_keepsRecords s u
  · exact (KeepsRecords.refl s).modUnit u.tag keepsUnit_aborted

/-- Records that are left out leave the others sound (R20). -/
theorem unitsOk_filter {s : State} (p : UnitRec → Bool) (h : UnitsOk s) : UnitsOk (s.setUnits (s.units.filter p)) := by
  obtain ⟨tags, size, ranges, bound⟩ := h
  have old {u : UnitRec} (hu : u ∈ s.units.filter p) : u ∈ s.units := List.mem_of_mem_filter hu
  exact ⟨tags.sublist (List.filter_sublist.map _), (List.length_filter_le _ _).trans size, fun u hu => ranges u (old hu),
    fun u hu v hv => bound u (old hu) v (old hv)⟩

theorem ownUnitRelease_keepsRecords (s : State) (unit : Nat) : KeepsRecords s (ownUnitRelease unit s).state := by
  unfold ownUnitRelease
  split
  · exact .refl s
  split
  · exact .refl s
  split
  · exact ⟨unitsOk_filter _, id⟩
  · exact .refl s

/-! ### Batch requests (Chapter 7) -/

/-- The Wait List's decision grants, queues or refuses (R88, R89). -/
theorem KeepsRecords.askFeed {s t : State} (h : KeepsRecords s t) (n : Node) (tag : Nat) (k : ReqKind) (g : GasClass)
    (w : WaitPurpose) : KeepsRecords s (t.askFeed n tag k g w).state := by
  unfold State.askFeed
  split
  · exact h
  split
  · exact h
  unfold State.decideFeed
  split
  · exact h.grant _ n w g
  split
  · exact h.frame rfl rfl
  · exact h

theorem KeepsRecords.askForBatch {s t : State} (h : KeepsRecords s t) (n : Node) (tag : Nat) (k : ReqKind) (l : FoamLine)
    (bt : Batch) : KeepsRecords s (askForBatch t n tag k l bt).state := by
  have asked := h.askFeed n tag k bt.cls (.batch l bt.number)
  unfold Machine.askForBatch
  dsimp only
  split
  · exact asked.batchState l .waitingFeed
  · exact asked

theorem ownFoamOpen_keepsRecords (s : State) (n : Node) (tag cls : Nat) :
    KeepsRecords s (ownFoamOpen n tag cls s).state := by
  unfold ownFoamOpen
  split
  · exact .refl s
  · exact .refl s
  rename_i g l _ _
  split
  · exact .refl s
  split
  · exact .refl s
  split
  · exact .refl s
  refine KeepsRecords.askForBatch ?_ n tag .foamOpen l _
  refine (KeepsRecords.refl s).setLine l (fun ok => ⟨(line_sound ok l).previous, fun b hb => ?_⟩)
  obtain rfl := Option.mem_some_iff.mp hb
  exact nofun

theorem ownFoamResume_keepsRecords (s : State) (n : Node) (tag : Nat) :
    KeepsRecords s (ownFoamResume n tag s).state := by
  unfold ownFoamResume
  split
  · exact .refl s
  split
  · exact .refl s
  split
  · exact .refl s
  split
  · exact .refl s
  split
  · exact .refl s
  split
  · exact .refl s
  · exact (KeepsRecords.refl s).askForBatch n tag .foamResume _ _

/-- An admission takes the unit out of the station's hands (R17). -/
theorem keepsUnit_admitted (l : FoamLine) (number : Nat) (g : GasClass) (weight : Nat) (mismatch : Bool) :
    KeepsUnit (fun v => admittedUnit v l number g weight mismatch) := by
  refine ⟨fun _ => rfl, fun u range => ?_, fun _ => nofun⟩
  obtain ⟨low, high, recovered, feeds, aborts, ratio, -⟩ := range
  exact ⟨low, high, recovered, feeds, aborts, ratio, nofun⟩

/-- A cabinet that weighs the expectation figure of its unit weighs at least 1 g (R124, R133). -/
theorem keepsRecords_addCabinet (s : State) (l : FoamLine) (unit : Nat) (k : Fin 20) :
    KeepsRecords s (s.modCurrent l (fun b => { b with
      cabinets := b.cabinets ++ [{ tag := unit, weight := s.batches.expect[k], share := none }] })) := by
  refine (KeepsRecords.refl s).setLine l (fun ok => ?_)
  obtain ⟨expect, lines⟩ := (batchesOk_iff s).mp ok
  obtain ⟨previous, current⟩ := lines l
  refine ⟨previous, fun b hb c hc => ?_⟩
  obtain ⟨b₀, hb₀, rfl⟩ := Option.map_eq_some_iff.mp hb
  obtain hc | hc := List.mem_append.mp hc
  · exact current b₀ hb₀ c hc
  · obtain rfl := List.mem_singleton.mp hc
    exact expect k

theorem ownCabinetAdmit_keepsRecords (s : State) (n : Node) (unit cls : Nat) :
    KeepsRecords s (ownCabinetAdmit n unit cls s).state := by
  unfold ownCabinetAdmit
  split
  · exact .refl s
  · exact .refl s
  rename_i g l _ _
  split
  · exact .refl s
  split
  · exact .refl s
  rename_i bt _
  split
  · exact .refl s
  split
  · exact .refl s
  rename_i u _
  split
  · exact .refl s
  split
  · exact .refl s
  split
  · exact .refl s
  have admitted : ∀ mismatch, KeepsRecords s _ := fun mismatch =>
    (keepsRecords_addCabinet s l unit (expectIx u.category g)).modUnit unit
      (keepsUnit_admitted l bt.number g s.batches.expect[expectIx u.category g] mismatch)
  dsimp only
  split
  · split
    · exact (admitted _).alarm _ _ _
    · exact admitted _
  · exact admitted false

theorem KeepsRecords.closeStalled {s t : State} (h : KeepsRecords s t) (n : Node) (tag : Nat) (l : FoamLine) (bt : Batch) :
    KeepsRecords s (closeStalled n tag l bt t).state := by
  unfold Machine.closeStalled
  split
  · exact h.completeBatch l
  split
  · exact (h.batchState l .closing).frame rfl rfl
  · exact h

theorem closeOpen_keepsRecords (s : State) (n : Node) (tag : Nat) (l : FoamLine) (b : BayIx) :
    KeepsRecords s (closeOpen n tag l b s).state := by
  have closed : KeepsRecords s ((s.modCurrent l (fun x => { x with state := .closing })).endFeed b .closed) :=
    ((KeepsRecords.refl s).batchState l .closing).endFeed b .closed
  unfold closeOpen
  dsimp only
  split
  · exact closed
  split
  · exact closed.frame rfl rfl
  · exact .refl s

theorem ownFoamClose_keepsRecords (s : State) (n : Node) (tag : Nat) : KeepsRecords s (ownFoamClose n tag s).state := by
  have stalled : ∀ l bt, KeepsRecords s (closeStalled n tag l bt s).state := (KeepsRecords.refl s).closeStalled n tag
  unfold ownFoamClose
  split
  · exact .refl s
  split
  · exact .refl s
  split
  · exact .refl s
  · exact .refl s
  · exact stalled _ _
  · split
    · exact ((KeepsRecords.refl s).endEntry _ .withdrawn).closeStalled n tag _ _
    · exact stalled _ _
  · split
    · exact closeOpen_keepsRecords s n tag _ _
    · exact stalled _ _

theorem ownSetExpect_keepsRecords (s : State) (category cls grams : Nat) :
    KeepsRecords s (ownSetExpect category cls grams s).state := by
  unfold ownSetExpect
  split
  · refine ⟨id, fun ok => ?_⟩
    obtain ⟨expect, lines⟩ := (batchesOk_iff s).mp ok
    refine (batchesOk_iff _).mpr ⟨fun k => ?_, lines⟩
    have positive : 1 ≤ clamp 1 9999 grams := le_max_left _ _
    have kept := expect k
    simp only [appliedAnswer, Fin.getElem_fin, Vector.getElem_set] at kept ⊢
    split
    · exact positive
    · exact kept
  · exact .refl s

/-! ### Feed requests (Chapters 4 and 5) -/

theorem KeepsRecords.endedAnswer {s t : State} (h : KeepsRecords s t) (n : Node) :
    KeepsRecords s (endedAnswer t n).state := by
  unfold Machine.endedAnswer
  split <;> exact h

theorem KeepsRecords.storeEstimate {s t : State} (h : KeepsRecords s t) (b : BayIx) (f : Feed) :
    KeepsRecords s (t.storeEstimate b f) := by
  unfold State.storeEstimate
  dsimp only
  split <;> exact h.frame rfl rfl

theorem ownFeedOpen_keepsRecords (s : State) (n : Node) (tag : Nat) : KeepsRecords s (ownFeedOpen n tag s).state := by
  unfold ownFeedOpen
  split
  · exact .refl s
  split
  · exact .refl s
  split
  · exact .refl s
  split
  · exact .refl s
  · exact (KeepsRecords.refl s).askFeed n tag .feedOpen _ _

theorem ownFeedProgress_keepsRecords (s : State) (n : Node) (flow : Nat) :
    KeepsRecords s (ownFeedProgress n flow s).state := by
  unfold ownFeedProgress
  split
  · exact (KeepsRecords.refl s).endedAnswer n
  rename_i b f _
  have stored := (KeepsRecords.refl s).storeEstimate b
    { f with estimate := 10 * flow, holdDeadline := some (s.now + 1000 * s.params.holdTime) }
  dsimp only
  split
  · exact (stored.endFeed b .full).endedAnswer n
  · exact stored

theorem ownFeedClose_keepsRecords (s : State) (n : Node) (tag flow : Nat) :
    KeepsRecords s (ownFeedClose n tag flow s).state := by
  unfold ownFeedClose
  split
  · split
    · exact .refl s
    · exact (KeepsRecords.refl s).endedAnswer n
  rename_i b f _
  have closed := ((KeepsRecords.refl s).storeEstimate b { f with estimate := 10 * flow }).endFeed b .closed
  dsimp only
  split
  · exact closed
  split
  · exact closed.frame rfl rfl
  · exact .refl s

theorem ownFeedCancel_keepsRecords (s : State) (n : Node) : KeepsRecords s (ownFeedCancel n s).state := by
  unfold ownFeedCancel
  split
  · exact .refl s
  · exact (KeepsRecords.refl s).endEntry _ .withdrawn

/-! ### Vessels, settings and the permit -/

theorem ownVesselMount_keepsRecords (s : State) (bay vid cls capacity tare : Nat) :
    KeepsRecords s (ownVesselMount bay vid cls capacity tare s).state := by
  unfold ownVesselMount
  split
  · split
    · exact .refl s
    split
    · exact .refl s
    split
    · exact .refl s
    split
    · exact .refl s
    refine KeepsRecords.enterService ?_ _
    exact (KeepsRecords.refl s).frame rfl rfl
  · exact .refl s

theorem ownVesselRetire_keepsRecords (s : State) (bay : Nat) : KeepsRecords s (ownVesselRetire bay s).state := by
  unfold ownVesselRetire
  split
  · exact .refl s
  split
  case h_7 =>
    split
    · exact .refl s
    · exact (KeepsRecords.refl s).frame rfl rfl
  all_goals exact .refl s

theorem ownCalibrate_keepsRecords (s : State) (bay zeroAt scale : Nat) :
    KeepsRecords s (ownCalibrate bay zeroAt scale s).state := by
  unfold ownCalibrate
  split
  · exact .refl s
  split
  · exact .refl s
  split
  · exact .refl s
  split
  · exact .refl s
  rename_i b _ _ _ _
  have written : KeepsRecords s ((s.setBay b { s.bay b with zero := zeroAt, scale := scale }).beginWrite b
      ((s.bay b).calibrationRecord zeroAt scale)) := (KeepsRecords.refl s).frame rfl rfl
  dsimp only
  split
  · exact written
  · exact written.enterService b

theorem ownZeroCapture_keepsRecords (s : State) (bay scale : Nat) :
    KeepsRecords s (ownZeroCapture bay scale s).state := by
  unfold ownZeroCapture
  split
  · exact .refl s
  split
  · exact .refl s
  split
  · exact .refl s
  split
  · exact .refl s
  split
  · exact .refl s
  · exact (KeepsRecords.refl s).frame rfl rfl

theorem ownClearFault_keepsRecords (s : State) (bay : Nat) : KeepsRecords s (ownClearFault bay s).state := by
  unfold ownClearFault
  split
  · exact .refl s
  split
  · exact .refl s
  · exact (KeepsRecords.refl s).enterService _

theorem KeepsRecords.reviewBay {s t : State} (h : KeepsRecords s t) (b : BayIx) : KeepsRecords s (t.reviewBay b) := by
  unfold State.reviewBay
  split
  · split
    · exact h
    · exact h.frame rfl rfl
  · split
    · exact h.frame rfl rfl
    · exact h
  · exact h

theorem ownSetParam_keepsRecords (s : State) (id value : Nat) : KeepsRecords s (ownSetParam id value s).state := by
  unfold ownSetParam
  split
  · exact .refl s
  have set : ∀ v, KeepsRecords s { s with params := s.params.setId id v } := fun _ => (KeepsRecords.refl s).frame rfl rfl
  unfold appliedAnswer State.applyParam
  dsimp only
  split
  · unfold State.reviewReserve
    exact ((set _).trans (KeepsRecords.foldl (fun t b => (KeepsRecords.refl t).reviewBay b) _ _)).trans
      (KeepsRecords.foldl (fun t b => (KeepsRecords.refl t).scan b) _ _)
  · exact set _

theorem ownLinkStats_keepsRecords (s : State) (n : Node) (addr : Nat) :
    KeepsRecords s (ownLinkStats n addr s).state := by
  unfold ownLinkStats
  split
  · exact .refl s
  split
  · exact .refl s
  · exact (KeepsRecords.refl s).frame rfl rfl

theorem ownSetDigest_keepsRecords (s : State) (n : Node) (items : List (Nat × Nat)) :
    KeepsRecords s (ownSetDigest n items s).state := by
  unfold ownSetDigest
  split
  · exact (KeepsRecords.refl s).frame rfl rfl
  · exact .refl s

theorem ownAlarmRead_keepsRecords (s : State) (group : Nat) : KeepsRecords s (ownAlarmRead group s).state := by
  unfold ownAlarmRead
  split
  · exact (KeepsRecords.refl s).frame rfl rfl
  · exact .refl s

theorem ownPermit_keepsRecords (s : State) (value : Nat) : KeepsRecords s (ownPermit value s).state := by
  unfold ownPermit
  split
  · exact .refl s
  · exact (KeepsRecords.refl s).setInterlock _

/-! ### Queries: the state stands -/

theorem ownUnitQuery_state (s : State) (unit : Nat) : (ownUnitQuery unit s).state = s := by
  unfold ownUnitQuery
  split
  · rfl
  · split <;> rfl

theorem ownBatchQuery_state (s : State) (line slot : Nat) : (ownBatchQuery line slot s).state = s := by
  unfold ownBatchQuery
  split
  · rfl
  · split
    · rfl
    · split <;> rfl

theorem ownVesselQuery_state (s : State) (bay : Nat) : (ownVesselQuery bay s).state = s := by
  unfold ownVesselQuery
  split <;> rfl

theorem ownFeedOutcome_state (s : State) (n : Node) : (ownFeedOutcome n s).state = s := by
  unfold ownFeedOutcome
  split <;> rfl

/-! ### Taking a request -/

/-- A request keeps the records where its owner's part does (R167). -/
theorem take_keepsRecords {act : State → Taken} {s : State} (h : KeepsRecords s (act s).state) (n : Node) (tag : Nat)
    (k : ReqKind) : KeepsRecords s (take n tag k act s) := by
  unfold take
  dsimp only
  split
  · exact h.frame rfl rfl
  · exact (KeepsRecords.refl s).frame rfl rfl

theorem takeRequest_keepsRecords (i : Instr) (s : State) : KeepsRecords s (takeRequest i s) := by
  have stands {t : Taken} (h : t.state = s) : KeepsRecords s t.state := by rw [h]; exact .refl s
  cases i with
  | replyLimit n t bytes => exact take_keepsRecords ((KeepsRecords.refl s).frame rfl rfl) n t _
  | linkStats n t addr => exact take_keepsRecords (ownLinkStats_keepsRecords s n addr) n t _
  | feedOpen n t => exact take_keepsRecords (ownFeedOpen_keepsRecords s n t) n t _
  | feedProgress n t flow => exact take_keepsRecords (ownFeedProgress_keepsRecords s n flow) n t _
  | feedClose n t flow => exact take_keepsRecords (ownFeedClose_keepsRecords s n t flow) n t _
  | feedCancel n t => exact take_keepsRecords (ownFeedCancel_keepsRecords s n) n t _
  | feedOutcome n t => exact take_keepsRecords (stands (ownFeedOutcome_state s n)) n t _
  | degasEnd n t outcome => exact take_keepsRecords (ownDegasEnd_keepsRecords s n outcome) n t _
  | foamOpen n t cls => exact take_keepsRecords (ownFoamOpen_keepsRecords s n t cls) n t _
  | foamResume n t => exact take_keepsRecords (ownFoamResume_keepsRecords s n t) n t _
  | foamClose n t => exact take_keepsRecords (ownFoamClose_keepsRecords s n t) n t _
  | batchQuery n t line slot => exact take_keepsRecords (stands (ownBatchQuery_state s line slot)) n t _
  | vesselQuery n t bay => exact take_keepsRecords (stands (ownVesselQuery_state s bay)) n t _
  | alarmRead n t group => exact take_keepsRecords (ownAlarmRead_keepsRecords s group) n t _
  | permit n t value => exact take_keepsRecords (ownPermit_keepsRecords s value) n t _
  | vesselRetire n t bay => exact take_keepsRecords (ownVesselRetire_keepsRecords s bay) n t _
  | vesselClearFault n t bay => exact take_keepsRecords (ownClearFault_keepsRecords s bay) n t _
  | linkOptions n t options => exact take_keepsRecords ((KeepsRecords.refl s).frame rfl rfl) n t _
  | announce n t unit category refr charge foam =>
    exact take_keepsRecords (ownAnnounce_keepsRecords s unit category refr charge foam) n t _
  | degasBegin n t unit cls => exact take_keepsRecords (ownDegasBegin_keepsRecords s n unit cls) n t _
  | cabinetAdmit n t unit cls => exact take_keepsRecords (ownCabinetAdmit_keepsRecords s n unit cls) n t _
  | unitQuery n t unit => exact take_keepsRecords (stands (ownUnitQuery_state s unit)) n t _
  | unitRelease n t unit => exact take_keepsRecords (ownUnitRelease_keepsRecords s unit) n t _
  | vesselMount n t bay vid cls capacity tare =>
    exact take_keepsRecords (ownVesselMount_keepsRecords s bay vid cls capacity tare) n t _
  | calibrate n t bay zeroAt scale => exact take_keepsRecords (ownCalibrate_keepsRecords s bay zeroAt scale) n t _
  | calibrateZeroCapture n t bay scale => exact take_keepsRecords (ownZeroCapture_keepsRecords s bay scale) n t _
  | setParam n t id value => exact take_keepsRecords (ownSetParam_keepsRecords s id value) n t _
  | setExpect n t category cls grams => exact take_keepsRecords (ownSetExpect_keepsRecords s category cls grams) n t _
  | setDigest n t items => exact take_keepsRecords (ownSetDigest_keepsRecords s n items) n t _
  | _ => exact .refl s

theorem takeFrame_keepsRecords (n : Node) (f : ReqFrame) (s : State) : KeepsRecords s (takeFrame n f s) := by
  unfold takeFrame
  split
  · exact takeRequest_keepsRecords _ s
  · exact take_keepsRecords (.refl s) n f.tag f.kind

theorem takeAll_keepsRecords (n : Node) (fs : List ReqFrame) (s : State) : KeepsRecords s (takeAll n fs s).1 := by
  induction fs generalizing s with
  | nil => exact .refl s
  | cons f rest ih => exact (takeFrame_keepsRecords n f s).trans (ih _)

/-! ## Units and batches through the other commands -/

/-! ### The plant line (Chapter 9): only the requests of a taken burst reach the records -/

theorem KeepsRecords.discardFrame {s t : State} (h : KeepsRecords s t) (c : Conn) (e : ErrBit) :
    KeepsRecords s (t.discardFrame c e) := by
  unfold State.discardFrame State.haltBurst
  dsimp only
  split
  · split <;> exact h.frame rfl rfl
  · exact h.frame rfl rfl

theorem KeepsRecords.keepRequest {s t : State} (h : KeepsRecords s t) (c : Conn) (f : ReqFrame) :
    KeepsRecords s (t.keepRequest c f) := by
  unfold State.keepRequest
  split
  · exact h.discardFrame c .burstOver
  split
  · exact h.discardFrame c .skipped
  · exact h.frame rfl rfl

theorem KeepsRecords.afterReply {s t : State} (h : KeepsRecords s t) (n : Node) (st : Status) (k : ReqKind) (b : Body) :
    KeepsRecords s (t.afterReply n st k b) := by
  unfold State.afterReply State.moveCursor
  dsimp only
  split
  · exact h
  · exact h.frame rfl rfl

theorem KeepsRecords.sendSlotReply {s t : State} (h : KeepsRecords s t) (n : Node) :
    KeepsRecords s (t.sendSlotReply n) := by
  unfold State.sendSlotReply
  split
  · exact h
  · exact (h.afterReply n _ _ _).setPli _

theorem KeepsRecords.composeBurst {s t : State} (h : KeepsRecords s t) (n : Node) (bursts : Nat) (answers : List Answer) :
    KeepsRecords s (t.composeBurst n bursts answers) := by
  unfold State.composeBurst
  refine KeepsRecords.setPli ?_ _
  refine ((h.setPli _).sendSlotReply n).trans (KeepsRecords.foldl (fun t a => ?_) answers _)
  exact ((KeepsRecords.refl t).afterReply n a.status a.kind a.body).setPli _

theorem KeepsRecords.takeTurn {s t : State} (h : KeepsRecords s t) (c : Conn) : KeepsRecords s (t.takeTurn c) := by
  unfold State.takeTurn
  exact ((h.trans (takeAll_keepsRecords c.partner t.pli.buffer t)).setPli _).composeBurst _ _ _

theorem KeepsRecords.touch {s t : State} (h : KeepsRecords s t) : KeepsRecords s t.touch := h.setPli _

theorem KeepsRecords.keepFrame {s t : State} (h : KeepsRecords s t) (c : Conn) (f : Kept) :
    KeepsRecords s (t.keepFrame c f) := by
  unfold State.keepFrame
  split
  · cases f with
    | request r => exact (h.keepRequest c r).touch
    | ctrl k =>
      cases k with
      | fill => exact h.touch
      | turn => exact h.takeTurn c
      | endFrame => exact h.setPli _
      | _ => exact (h.discardFrame c .outOfPlace).touch
  · exact h.discardFrame c .outOfPlace

theorem receive_keepsRecords (raw : RawFrame) (s : State) : KeepsRecords s (receive raw s) := by
  have noted : ∀ corrected, KeepsRecords s (s.noteFixed corrected) := by
    intro corrected
    unfold State.noteFixed
    split
    · exact (KeepsRecords.refl s).frame rfl rfl
    · exact .refl s
  unfold receive State.takeVerdict
  split
  · split
    · exact ((noted _).discardFrame _ _).touch
    · exact (noted _).keepFrame _ _
  · exact .refl s

theorem takeEnd_keepsRecords (raw : RawFrame) (s : State) : KeepsRecords s (takeEnd raw s) := by
  unfold takeEnd
  split
  · exact (KeepsRecords.refl s).setPli _
  · exact receive_keepsRecords raw s

theorem takeArbitration_keepsRecords (masters : List (BitVec 4)) (s : State) :
    KeepsRecords s (takeArbitration masters s) := by
  unfold takeArbitration
  split
  · split
    · exact (KeepsRecords.refl s).setPli _
    · exact .refl s
  · exact .refl s

theorem takeSelect_keepsRecords (raw : RawFrame) (s : State) : KeepsRecords s (takeSelect raw s) := by
  unfold takeSelect
  split
  · split
    · exact (KeepsRecords.refl s).setPli _
    · exact .refl s
  · exact receive_keepsRecords raw s

theorem completeSelection_keepsRecords (s : State) : KeepsRecords s (completeSelection s) := by
  unfold completeSelection
  split
  · exact (KeepsRecords.refl s).frame rfl rfl
  · exact .refl s

theorem reselect_keepsRecords (s : State) : KeepsRecords s (reselect s) := by
  unfold reselect
  split
  · exact .refl s
  split
  · exact (KeepsRecords.refl s).setPli _
  · exact .refl s

theorem deliverReselected_keepsRecords (s : State) (c : Conn) : KeepsRecords s (s.deliverReselected c) := by
  have connected : KeepsRecords s ((s.setPli { s.pli.dropped .connected with conn := some c }).setPresence c.partner
      .present) := (KeepsRecords.refl s).frame rfl rfl
  exact (connected.sendSlotReply c.partner).setPli _

theorem takeSelectAck_keepsRecords (raw : RawFrame) (s : State) : KeepsRecords s (takeSelectAck raw s) := by
  unfold takeSelectAck
  split
  · split
    · split
      · exact deliverReselected_keepsRecords s _
      · exact .refl s
    · split
      · exact (KeepsRecords.refl s).setPli _
      · exact .refl s
  · exact receive_keepsRecords raw s

theorem passReselection_keepsRecords (arrival : Nat) (s : State) : KeepsRecords s (passReselection arrival s) := by
  unfold passReselection
  dsimp only
  split
  · split <;> exact (KeepsRecords.refl s).frame rfl rfl
  · exact (KeepsRecords.refl s).frame rfl rfl

theorem passTurn_keepsRecords (arrival : Nat) (s : State) : KeepsRecords s (passTurn arrival s) := by
  unfold passTurn
  dsimp only
  split
  · split <;> exact (KeepsRecords.refl s).frame rfl rfl
  · exact (KeepsRecords.refl s).frame rfl rfl

theorem KeepsRecords.returnHeld {s t : State} (h : KeepsRecords s t) (c : Conn) : KeepsRecords s (t.returnHeld c) := by
  unfold State.returnHeld
  split
  · split
    · exact h.frame rfl rfl
    · exact h
  · exact h

theorem KeepsRecords.takeLineReset {s t : State} (h : KeepsRecords s t) (receiving : Bool) :
    KeepsRecords s (takeLineReset receiving t) := by
  unfold Machine.takeLineReset State.abandonLine
  split
  · exact h
  split
  · exact h.setPli _
  rename_i c _
  refine ((?_ : KeepsRecords s _).returnHeld c).setPli _
  split
  · exact h.setNode _ _
  · exact h

theorem releaseLine_keepsRecords (s : State) : KeepsRecords s (releaseLine s) := by
  unfold releaseLine
  split
  · exact (KeepsRecords.refl s).frame rfl rfl
  · exact .refl s

theorem passIdle_keepsRecords (arrival : Nat) (s : State) : KeepsRecords s (passIdle arrival s) := by
  have advanced : KeepsRecords s (s.advance arrival) := (KeepsRecords.refl s).frame rfl rfl
  unfold passIdle
  dsimp only
  split
  · exact advanced
  · exact (advanced.takeLineReset false).setPli _

theorem slotReplySent_keepsRecords (s : State) : KeepsRecords s (slotReplySent s) := by
  unfold slotReplySent
  split
  · exact (KeepsRecords.refl s).frame rfl rfl
  · exact .refl s

theorem reportSent_keepsRecords (s : State) : KeepsRecords s (reportSent s) := by
  unfold reportSent
  split
  · exact (KeepsRecords.refl s).setPli _
  · exact .refl s

theorem burstEndSent_keepsRecords (s : State) : KeepsRecords s (burstEndSent s) := by
  unfold burstEndSent
  split
  · split
    · exact (KeepsRecords.refl s).setPli _
    · exact .refl s
  · exact (KeepsRecords.refl s).setPli _
  · exact (KeepsRecords.refl s).setPli _
  · exact .refl s

/-! ### Samples and deadlines (Chapters 2 to 5) -/

theorem KeepsRecords.loseChannel {s t : State} (h : KeepsRecords s t) (b : BayIx) : KeepsRecords s (t.loseChannel b) := by
  have dropped : KeepsRecords s (((t.setChannel b (t.channel b).lose).alarm .channelLost (some b.val)).dropCapture b) := by
    unfold State.dropCapture
    split
    · split <;> exact h.frame rfl rfl
    · exact h.frame rfl rfl
  unfold State.loseChannel State.handLoss
  split
  · exact dropped.setBay _ _
  · exact dropped.setBay _ _
  · split
    · exact dropped
    · exact dropped.frame rfl rfl
  · exact (dropped.bookByEstimate b).leaveClosing b
  · exact dropped

theorem KeepsRecords.returnChannel {s t : State} (h : KeepsRecords s t) (b : BayIx) :
    KeepsRecords s (t.returnChannel b) := by
  unfold State.returnChannel
  dsimp only
  split
  · exact (h.setChannel b _).enterService b
  · split <;> exact h.frame rfl rfl
  · exact h.setChannel b _

theorem KeepsRecords.finishCapture {s t : State} (h : KeepsRecords s t) (b : BayIx) (codes : List Nat) :
    KeepsRecords s (t.finishCapture b codes) := by
  unfold State.finishCapture
  split
  · split
    · exact h.frame rfl rfl
    · exact h
  · exact h

theorem KeepsRecords.judgeSet {s t : State} (h : KeepsRecords s t) (b : BayIx) (w : Window) (xs : List Nat) :
    KeepsRecords s (t.judgeSet b w xs) := by
  have ended : KeepsRecords s (t.setChannel b { t.channel b with window := none }) := h.setChannel b _
  unfold State.judgeSet
  dsimp only
  split
  · exact ended.deliverReading b w.purpose _ false
  split
  · exact h.setChannel b _
  · exact (ended.alarm _ _ _).deliverReading b w.purpose _ true

theorem KeepsRecords.collect {s t : State} (h : KeepsRecords s t) (b : BayIx) (raw gross : Nat) :
    KeepsRecords s (t.collect b raw gross) := by
  unfold State.collect
  split
  · exact h
  rename_i w _
  split
  · exact h
  dsimp only
  generalize w.samples ++ [if w.purpose = .zeroCapture then raw else gross] = taken
  split
  · exact h.setChannel b _
  split
  · exact (h.setChannel b _).finishCapture b _
  · exact h.judgeSet b _ _

theorem KeepsRecords.watchOverfill {s t : State} (h : KeepsRecords s t) (b : BayIx) :
    KeepsRecords s (t.watchOverfill b) := by
  unfold State.watchOverfill
  split
  · exact h.endFeed b .full
  · exact h

theorem KeepsRecords.invalidSample {s t : State} (h : KeepsRecords s t) (b : BayIx) :
    KeepsRecords s (t.invalidSample b) := by
  unfold State.invalidSample
  split
  · exact h.loseChannel b
  · exact h.setChannel b _

theorem validSample_keepsRecords (s : State) (b : BayIx) (raw : Nat) : KeepsRecords s (s.validSample b raw) := by
  have heard : ∀ r, KeepsRecords s (s.setChannel b r) := (KeepsRecords.refl s).setChannel b
  unfold State.validSample
  dsimp only
  split
  · exact ((heard _).watchOverfill b).collect b raw _
  split
  · exact ((heard _).returnChannel b).watchOverfill b
  · exact heard _

theorem takeSample_keepsRecords (b : BayIx) (x : SampleIn) (s : State) : KeepsRecords s (takeSample b x s) := by
  unfold takeSample
  split
  · split
    · exact validSample_keepsRecords s b _
    · exact (KeepsRecords.refl s).invalidSample b
  · exact (KeepsRecords.refl s).invalidSample b

theorem advance_keepsRecords (s : State) (arrival : Nat) : KeepsRecords s (s.advance arrival) :=
  (KeepsRecords.refl s).frame rfl rfl

theorem passSilence_keepsRecords (b : BayIx) (arrival : Nat) (s : State) : KeepsRecords s (passSilence b arrival s) := by
  unfold passSilence
  dsimp only
  split
  · exact (advance_keepsRecords s arrival).invalidSample b
  · exact advance_keepsRecords s arrival

theorem passSettle_keepsRecords (b : BayIx) (arrival : Nat) (s : State) : KeepsRecords s (passSettle b arrival s) := by
  unfold passSettle
  dsimp only
  split
  · exact advance_keepsRecords s arrival
  split
  · exact (advance_keepsRecords s arrival).setChannel b _
  · exact advance_keepsRecords s arrival

theorem passHold_keepsRecords (b : BayIx) (arrival : Nat) (s : State) : KeepsRecords s (passHold b arrival s) := by
  unfold passHold
  dsimp only
  split
  · exact advance_keepsRecords s arrival
  split
  · exact (advance_keepsRecords s arrival).endFeed b .abandoned
  · exact advance_keepsRecords s arrival

theorem passWait_keepsRecords (n : Node) (arrival : Nat) (s : State) : KeepsRecords s (passWait n arrival s) := by
  unfold passWait
  dsimp only
  split
  · exact advance_keepsRecords s arrival
  split
  · exact ((advance_keepsRecords s arrival).endEntry _ .waitExpired).alarm _ _ _
  · exact advance_keepsRecords s arrival

theorem switchCloses_keepsRecords (b : BayIx) (s : State) : KeepsRecords s (switchCloses b s) := by
  have read : KeepsRecords s (s.setSwitch b true) := (KeepsRecords.refl s).frame rfl rfl
  unfold switchCloses State.confirmClose
  dsimp only
  split
  · split
    · exact read.setBay b _
    split
    · exact (read.setBay b _).leaveClosing b
    split
    · exact read.frame rfl rfl
    · exact read.setBay b _
  · exact read

theorem passCloseWatch_keepsRecords (b : BayIx) (arrival : Nat) (s : State) :
    KeepsRecords s (passCloseWatch b arrival s) := by
  unfold passCloseWatch State.expireClose
  dsimp only
  split
  · exact ((((advance_keepsRecords s arrival).setBay b _).alarm .valveFault (some b.val) 0).bookByEstimate b).setFeed b none
  · exact advance_keepsRecords s arrival

/-! ### Inputs, power and time -/

theorem assertEstop_keepsRecords (s : State) : KeepsRecords s (assertEstop s) := by
  have written : KeepsRecords s { s with interlock := { s.interlock with estop := true } } :=
    (KeepsRecords.refl s).frame rfl rfl
  unfold assertEstop
  split
  · exact .refl s
  · exact ((written.endFeeds (fun _ => true) .estop).purge (fun _ => true) .estop).alarm .estopOn none 0

/-- A start leaves no unit, no batch and the default expectation figures (R21, R114, R133). -/
theorem defaults_sound (s : State) (store : Store) : UnitsOk (s.defaults store) ∧ BatchesOk (s.defaults store) := by
  refine ⟨by simp [UnitsOk, show (s.defaults store).units = [] from rfl], ?_⟩
  have initial : ∀ l : FoamLine, BatchTable.initial.lines[l] = { current := none, previous := none, lastNumber := 0 } := by
    decide
  refine (batchesOk_iff _).mpr ⟨?_, fun l => ?_⟩
  · exact (by decide : ∀ k : Fin 20, 1 ≤ defaultExpect[k])
  · rw [show (s.defaults store).line l = _ from initial l]
    exact ⟨nofun, nofun⟩

theorem startUp_keepsRecords (s : State) : KeepsRecords s (startUp s) := by
  have fresh : KeepsRecords s (s.defaults s.store.cutShort) :=
    ⟨fun _ => (defaults_sound s _).1, fun _ => (defaults_sound s _).2⟩
  have lost : ∀ (t : State) (b : BayIx),
      KeepsRecords t (if t.store.recs[b].good then t else t.alarm .storeLost (some b.val)) := by
    intro t b
    split
    · exact .refl t
    · exact (KeepsRecords.refl t).alarm _ _ _
  have checked := (fresh.alarm .powerOn none 0).trans (KeepsRecords.foldl lost allBays _)
  unfold startUp
  dsimp only
  split
  · exact checked.alarm _ _ _
  · exact checked

theorem assertReset_keepsRecords (s : State) : KeepsRecords s (assertReset s) := by
  unfold assertReset
  split <;> exact (KeepsRecords.refl s).frame rfl rfl

theorem tick_keepsRecords (s : State) : KeepsRecords s (tick s) := by
  unfold tick State.dropClaim
  dsimp only
  split
  · exact (KeepsRecords.refl s).frame rfl rfl
  · split <;> exact (KeepsRecords.refl s).frame rfl rfl

/-! ### Every command, every step -/

/-- A command that is at rest under reset keeps the records where its act does (R146). -/
theorem live_keepsRecords {act : State → State} {s t : State} (h : KeepsRecords s (act s))
    (e : live act s = .next t) : KeepsRecords s t := by
  rw [live_spec] at e
  obtain rfl := Host.Outcome.next.inj e
  split
  · exact .refl s
  · exact h

/-- An input acts under reset too (R136, R146). -/
theorem next_keepsRecords {s t u : State} (h : KeepsRecords s u)
    (e : (Host.Outcome.next u : Host.Outcome State Fault Refusal) = .next t) : KeepsRecords s t := by
  obtain rfl := Host.Outcome.next.inj e
  exact h

theorem exec_keepsRecords (c : Instr) {s t : State} (e : exec c s = .next t) : KeepsRecords s t := by
  have request := takeRequest_keepsRecords c s
  cases c with
  | requestFrameReceived raw => exact live_keepsRecords (receive_keepsRecords raw s) e
  | frameDiscarded raw => exact live_keepsRecords (receive_keepsRecords raw s) e
  | fill raw => exact live_keepsRecords (receive_keepsRecords raw s) e
  | turn raw => exact live_keepsRecords (receive_keepsRecords raw s) e
  | endFrame raw => exact live_keepsRecords (takeEnd_keepsRecords raw s) e
  | select raw => exact live_keepsRecords (takeSelect_keepsRecords raw s) e
  | selectionComplete => exact live_keepsRecords (completeSelection_keepsRecords s) e
  | slotReplyDelivered => exact live_keepsRecords (slotReplySent_keepsRecords s) e
  | reportSent => exact live_keepsRecords (reportSent_keepsRecords s) e
  | arbitration contenders => exact live_keepsRecords (takeArbitration_keepsRecords contenders s) e
  | reselection => exact live_keepsRecords (reselect_keepsRecords s) e
  | selectAck raw => exact live_keepsRecords (takeSelectAck_keepsRecords raw s) e
  | reselectionTimeout arrival => exact live_keepsRecords (passReselection_keepsRecords arrival s) e
  | turnTimeout arrival => exact live_keepsRecords (passTurn_keepsRecords arrival s) e
  | lineReset receiving => exact live_keepsRecords ((KeepsRecords.refl s).takeLineReset receiving) e
  | lineResetRelease => exact live_keepsRecords (releaseLine_keepsRecords s) e
  | lineIdleTimeout arrival => exact live_keepsRecords (passIdle_keepsRecords arrival s) e
  | replyBurstEndSent => exact live_keepsRecords (burstEndSent_keepsRecords s) e
  | sample bay x => exact live_keepsRecords (takeSample_keepsRecords bay x s) e
  | silenceDeadline bay arrival => exact live_keepsRecords (passSilence_keepsRecords bay arrival s) e
  | settleDeadline bay arrival => exact live_keepsRecords (passSettle_keepsRecords bay arrival s) e
  | holdDeadline bay arrival => exact live_keepsRecords (passHold_keepsRecords bay arrival s) e
  | waitDeadline node arrival => exact live_keepsRecords (passWait_keepsRecords node arrival s) e
  | closeWatchExpiry bay arrival => exact live_keepsRecords (passCloseWatch_keepsRecords bay arrival s) e
  | storeWriteEnd => exact live_keepsRecords ((KeepsRecords.refl s).frame rfl rfl) e
  | switchClosed bay =>
    refine next_keepsRecords ?_ e
    split
    · exact (KeepsRecords.refl s).frame rfl rfl
    · exact switchCloses_keepsRecords bay s
  | switchOpen bay => exact next_keepsRecords (u := s.setSwitch bay false) ((KeepsRecords.refl s).frame rfl rfl) e
  | estopAssert =>
    refine next_keepsRecords ?_ e
    split
    · exact (KeepsRecords.refl s).frame rfl rfl
    · exact assertEstop_keepsRecords s
  | estopRelease => exact next_keepsRecords (u := s.estopLevel false) ((KeepsRecords.refl s).frame rfl rfl) e
  | gasNotHealthy =>
    refine next_keepsRecords ?_ e
    split
    · exact (KeepsRecords.refl s).frame rfl rfl
    · exact (KeepsRecords.refl s).setInterlock _
  | gasHealthy =>
    refine next_keepsRecords ?_ e
    split
    · exact (KeepsRecords.refl s).frame rfl rfl
    · exact (KeepsRecords.refl s).setInterlock _
  | resetAssert => exact next_keepsRecords (assertReset_keepsRecords s) e
  | resetRelease =>
    refine next_keepsRecords ?_ e
    split
    · have released : KeepsRecords s { s with inReset := false } := (KeepsRecords.refl s).frame rfl rfl
      exact released.trans (startUp_keepsRecords { s with inReset := false })
    · exact .refl s
  | powerOn => exact next_keepsRecords (startUp_keepsRecords s) e
  | calibrate n tag bay zeroAt scale =>
    refine live_keepsRecords ?_ e
    split
    · exact take_keepsRecords (ownZeroCapture_keepsRecords s bay scale) n tag _
    · exact request
  | _ => exact live_keepsRecords request e

theorem step_keepsRecords {s t : State} (e : step s = .next t) : KeepsRecords s t := by
  unfold step at e
  split at e
  · exact next_keepsRecords (tick_keepsRecords s) e
  · rename_i c rest _
    have taken : KeepsRecords s { s with pending := rest } := (KeepsRecords.refl s).frame rfl rfl
    exact taken.trans (exec_keepsRecords c e)

/-- Settles O56: every command, and a millisecond on an empty queue, is made of operations that keep the records. -/
theorem unitsAndBatchesStaySound : Obligations.UnitsAndBatchesStaySound :=
  fun _ _ e => step_keepsRecords e

/-! ## The answers of the unit requests -/

/-- Outside reset a permitted request leaves what its owner answers (R146, R167). -/
theorem live_take {n : Node} {tag : Nat} {k : ReqKind} {act : State → Taken} {s : State} {r : Taken}
    (run : s.inReset = false) (role : permitted k (roleOf n) = true) (answer : act s = r) :
    live (take n tag k act) s = .next (r.state.replied n tag k r.status r.body) := by
  rw [live_running _ s run, take_permitted n tag k act s role, answer]

/-! ### Codes and ranges of the arguments -/

theorem tagInRange_eq_false (unit : Nat) : tagInRange unit = false ↔ ¬(1 ≤ unit ∧ unit ≤ 99999999) := by
  rw [← tagInRange_iff, Bool.not_eq_true]

theorem classOfCode_isSome (c : Nat) : (classOfCode c).isSome = true ↔ 1 ≤ c ∧ c ≤ 4 := by
  unfold classOfCode
  split <;> grind

theorem categoryOfCode_isSome (c : Nat) : (categoryOfCode c).isSome = true ↔ 1 ≤ c ∧ c ≤ 5 := by
  unfold categoryOfCode
  split <;> grind

theorem declClassOk_iff (c : Nat) : declClassOk c = true ↔ c ≤ 4 := by
  have named := classOfCode_isSome c
  simp only [declClassOk, Bool.or_eq_true, beq_iff_eq, named]
  omega

theorem declChargeOk_iff (c : Nat) : declChargeOk c = true ↔ c ≤ 5000 := decide_eq_true_iff

theorem unit?_isSome (s : State) (unit : Nat) : (s.unit? unit).isSome = true ↔ ∃ u ∈ s.units, u.tag = unit := by
  simp [State.unit?]

/-! ### ANNOUNCE (R4, R5, R6) -/

theorem ownAnnounce_badArgument {s : State} {unit category refr charge foam : Nat}
    (bad : ¬(1 ≤ unit ∧ unit ≤ 99999999 ∧ 1 ≤ category ∧ category ≤ 5 ∧ refr ≤ 4 ∧ charge ≤ 5000 ∧ foam ≤ 4)) :
    ownAnnounce unit category refr charge foam s = refuse s .badArgument := by
  unfold ownAnnounce
  split
  · rfl
  rename_i cat named
  have code := (categoryOfCode_isSome category).mp (by simp [named])
  refine if_pos ?_
  by_contra good
  simp only [Bool.or_eq_true, Bool.not_eq_true', not_or, Bool.not_eq_false, tagInRange_iff, declClassOk_iff,
    declChargeOk_iff] at good
  omega

/-- With arguments in range ANNOUNCE looks for the tag, then for room, and then creates the record. -/
theorem ownAnnounce_inRange {s : State} {unit category refr charge foam : Nat} {cat : Category}
    (named : categoryOfCode category = some cat) (low : 1 ≤ unit) (high : unit ≤ 99999999) (hr : refr ≤ 4)
    (hc : charge ≤ 5000) (hf : foam ≤ 4) :
    ownAnnounce unit category refr charge foam s =
      if (s.unit? unit).isSome then refuse s .duplicate
      else if s.units.length ≥ 96 then refuse (s.alarm .tableFull (some unit)) .tableFull
      else { state := s.setUnits (s.units ++ [newUnit unit cat refr charge foam]), status := .ok } := by
  simp only [ownAnnounce, named, (tagInRange_iff unit).mpr ⟨low, high⟩, (declClassOk_iff _).mpr hr,
    (declClassOk_iff _).mpr hf, (declChargeOk_iff _).mpr hc, Bool.not_true, Bool.or_self, Bool.false_eq_true, if_false]

/-- Settles O7, clause by clause, from the answers of ANNOUNCE. -/
theorem announceCreatesUnit : Obligations.AnnounceCreatesUnit := by
  intro s n tag unit category refr charge foam run role
  have role : permitted .announce (roleOf n) = true := by simp [permitted, role]
  refine ⟨fun bad => live_take run role (ownAnnounce_badArgument bad), fun low high hr hc hf cat named => ?_⟩
  have inRange := ownAnnounce_inRange (s := s) named low high hr hc hf
  refine ⟨fun taken => ?_, fun free full => ?_, fun free room => ?_⟩
  · rw [if_pos ((unit?_isSome s unit).mpr taken)] at inRange
    exact live_take run role inRange
  · rw [if_neg (by simpa [unit?_isSome] using free), if_pos full] at inRange
    exact live_take run role inRange
  · rw [if_neg (by simpa [unit?_isSome] using free), if_neg (by omega)] at inRange
    exact live_take run role inRange

/-! ### DEGAS_BEGIN (R7, R8, R9) -/

theorem ownDegasBegin_badArgument {s : State} {n : Node} {unit cls : Nat}
    (bad : ¬(1 ≤ unit ∧ unit ≤ 99999999 ∧ 1 ≤ cls ∧ cls ≤ 4)) :
    ownDegasBegin n unit cls s = refuse s .badArgument := by
  unfold ownDegasBegin
  split
  · rfl
  rename_i g named
  have code := (classOfCode_isSome cls).mp (by simp [named])
  refine if_pos ?_
  simp only [Bool.not_eq_true', tagInRange_eq_false]
  omega

section
variable {s : State} {n : Node} {unit cls : Nat} {g : GasClass} {u : UnitRec} (range : tagInRange unit = true)
  (named : classOfCode cls = some g)
include range named

theorem ownDegasBegin_noUnit (unknown : s.unit? unit = none) : ownDegasBegin n unit cls s = refuse s .noUnit := by
  simp [ownDegasBegin, named, range, unknown]

theorem ownDegasBegin_wrongState (found : s.unit? unit = some u) (h : u.state ≠ .announced ∨ s.boundUnit n ≠ none) :
    ownDegasBegin n unit cls s = refuse s .wrongState := by
  have refused : (s.boundUnit n).isSome ∨ u.state ≠ .announced := by
    rw [Option.isSome_iff_ne_none]
    exact h.symm
  simp only [ownDegasBegin, named, range, found, if_pos refused, Bool.not_true, Bool.false_eq_true, if_false]

/-- A declared class that is not contradicted: the unit is bound, unmarked (R8). -/
theorem ownDegasBegin_matching (found : s.unit? unit = some u) (fresh : u.state = .announced)
    (free : s.boundUnit n = none) (h : u.declRefr = none ∨ u.declRefr = some g) :
    ownDegasBegin n unit cls s = { 
      state := s.modUnit unit (fun v => { v with state := .degassing, station := some n, identRefr := some g })
      status := .ok } := by
  obtain h | h := h <;> simp [ownDegasBegin, named, range, found, fresh, free, h]

/-- A declared class that is contradicted: the unit is bound and marked, and CLASS_MISMATCH counted (R9). -/
theorem ownDegasBegin_mismatching (found : s.unit? unit = some u) (fresh : u.state = .announced)
    (free : s.boundUnit n = none) (declared : u.declRefr ≠ none) (other : u.declRefr ≠ some g) :
    ownDegasBegin n unit cls s = { 
      state := (s.modUnit unit (fun v => { v with
        state := .degassing, station := some n, identRefr := some g,
        marks := { v.marks with classMismatch := true } })).alarm .classMismatch (some unit)
      status := .ok } := by
  obtain ⟨d, hd⟩ := Option.ne_none_iff_exists'.mp declared
  have differs : (d != g) = true := bne_iff_ne.mpr (fun e => other (e ▸ hd))
  simp [ownDegasBegin, named, range, found, fresh, free, hd, differs]

end

/-- Settles O8, clause by clause, from the answers of DEGAS_BEGIN. -/
theorem degasBeginBindsUnit : Obligations.DegasBeginBindsUnit := by
  intro s n tag unit cls run role
  have role : permitted .degasBegin (roleOf n) = true := by simp [permitted, role]
  refine ⟨fun bad => live_take run role (ownDegasBegin_badArgument bad), fun low high g named => ?_⟩
  have range := (tagInRange_iff unit).mpr ⟨low, high⟩
  refine ⟨fun unknown => live_take run role (ownDegasBegin_noUnit range named unknown), fun u found => ⟨?_, ?_, ?_⟩⟩
  · exact fun refused => live_take run role (ownDegasBegin_wrongState range named found refused)
  · exact fun fresh free h => live_take run role (ownDegasBegin_matching range named found fresh free h)
  · exact fun fresh free declared other =>
      live_take run role (ownDegasBegin_mismatching range named found fresh free declared other)

/-! ### DEGAS_END (R11 to R16, R105) -/

theorem ownDegasEnd_badArgument {s : State} {n : Node} {outcome : Nat} (bad : outcome = 0 ∨ 3 < outcome) :
    ownDegasEnd n outcome s = refuse s .badArgument := if_pos bad

theorem ownDegasEnd_noUnit {s : State} {n : Node} {outcome : Nat} (low : 1 ≤ outcome) (high : outcome ≤ 3)
    (idle : s.boundUnit n = none) : ownDegasEnd n outcome s = refuse s .noUnit := by
  have good : ¬(outcome = 0 ∨ 3 < outcome) := by omega
  simp only [ownDegasEnd, if_neg good, idle]

section
variable {s : State} {n : Node} {u : UnitRec} (bound : s.boundUnit n = some u)
include bound

theorem ownDegasEnd_feedActive {outcome : Nat} (low : 1 ≤ outcome) (high : outcome ≤ 3)
    (active : s.ownedBay n ≠ none ∨ s.entry n ≠ none) : ownDegasEnd n outcome s = refuse s .feedActive := by
  have good : ¬(outcome = 0 ∨ 3 < outcome) := by omega
  simp only [← Option.isSome_iff_ne_none] at active
  simp only [ownDegasEnd, if_neg good, bound, if_pos active]

variable (noFeed : s.ownedBay n = none) (noEntry : s.entry n = none)
include noFeed noEntry

/-- ABORTED unbinds the unit and counts the abort (R15). -/
theorem ownDegasEnd_aborted : ownDegasEnd n 3 s =
    { state := s.modUnit u.tag abortedUnit, status := .ok, body := degasBody .aborted (abortedUnit u) } := by
  simp [ownDegasEnd, bound, noFeed, noEntry]

/-- NO_CHARGE stands where little was recovered (R14). -/
theorem ownDegasEnd_noCharge (little : u.recovered ≤ s.params.emptyThreshold) : ownDegasEnd n 2 s =
    { state := s.modUnit u.tag emptyUnit, status := .ok, body := degasBody .noCharge (emptyUnit u) } := by
  simp [ownDegasEnd, bound, noFeed, noEntry, little]

/-- COMPLETE, and NO_CHARGE where more was recovered, end the unit COMPLETE (R12, R14). -/
theorem ownDegasEnd_complete {outcome : Nat}
    (h : outcome = 1 ∨ (outcome = 2 ∧ s.params.emptyThreshold < u.recovered)) :
    ownDegasEnd n outcome s = endComplete s u := by
  obtain rfl | ⟨rfl, much⟩ := h
  · simp [ownDegasEnd, bound, noFeed, noEntry]
  · simp [ownDegasEnd, bound, noFeed, noEntry, Nat.not_le.mpr much]

end

/-- Two rewritings that agree on the records of a tag leave the same. -/
theorem modUnit_congr {s : State} {tag : Nat} {f g : UnitRec → UnitRec}
    (h : ∀ v ∈ s.units, v.tag = tag → f v = g v) : s.modUnit tag f = s.modUnit tag g := by
  simp only [modUnit_spec]
  congr 1
  refine List.map_congr_left (fun v hv => ?_)
  split
  · rename_i e; exact h v hv e
  · rfl

/-- The end COMPLETE writes the ratio the recovery check yields; where it finds the unit short, the unit is marked and
RECOVERY_SHORT counted (R12, R13). -/
theorem endComplete_eq {s : State} {u : UnitRec} {ratio : Option Nat} {short : Bool}
    (check : recoveryCheck s u = (ratio, short)) (only : ∀ v ∈ s.units, v.tag = u.tag → v = u) :
    endComplete s u = {
      state :=
        let ended := s.modUnit u.tag (fun v => { v with
          state := .degassed, outcome := some .complete, station := none, ratio := ratio,
          marks := { v.marks with short := v.marks.short || short } })
        if short then ended.alarm .recoveryShort (some u.tag) else ended
      status := .ok
      body := .degas .complete u.recovered u.feedCount ratio { u.marks with short := u.marks.short || short } } := by
  have written := modUnit_congr (s := s) (tag := u.tag) (f := completedUnit s) (g := fun v => { v with
      state := .degassed, outcome := some .complete, station := none, ratio := ratio,
      marks := { v.marks with short := v.marks.short || short } }) (fun v hv e => by
    obtain rfl := only v hv e
    simp [completedUnit, check])
  simp only [endComplete, written, check, degasBody]
  simp only [completedUnit, check]

theorem recoveryCheck_charged {s : State} {u : UnitRec} {c : Nat} {short : Bool} (charged : u.declCharge = some c)
    (h : decide (recoveryRatio u.recovered c < s.params.minRecovery) = short) :
    recoveryCheck s u = (some (recoveryRatio u.recovered c), short) := by
  simp only [recoveryCheck, charged, h]

/-- Settles O9, clause by clause, from the answers of DEGAS_END; an end COMPLETE goes by the recovery check. -/
theorem degasEndEndsUnit : Obligations.DegasEndEndsUnit := by
  intro s n tag outcome run role
  have role : permitted .degasEnd (roleOf n) = true := by simp [permitted, role]
  refine ⟨fun bad => live_take run role (ownDegasEnd_badArgument bad), fun low high =>
    ⟨fun idle => live_take run role (ownDegasEnd_noUnit low high idle), fun u bound => ⟨?_, ?_, ?_, ?_⟩⟩⟩
  · exact fun active => live_take run role (ownDegasEnd_feedActive bound low high active)
  · rintro noFeed noEntry rfl
    exact live_take run role (ownDegasEnd_aborted bound noFeed noEntry)
  · rintro noFeed noEntry rfl little
    exact live_take run role (ownDegasEnd_noCharge bound noFeed noEntry little)
  intro noFeed noEntry h
  have complete := ownDegasEnd_complete bound noFeed noEntry h
  refine ⟨fun uncharged only => ?_, fun c charged only => ⟨fun enough => ?_, fun short => ?_⟩⟩
  · have check : recoveryCheck s u = (none, false) := by simp only [recoveryCheck, uncharged]
    have ended := endComplete_eq check only
    simp only [Bool.or_false] at ended
    exact live_take run role (complete.trans ended)
  · have check := recoveryCheck_charged charged (decide_eq_false (Nat.not_lt.mpr enough))
    have ended := endComplete_eq check only
    simp only [Bool.or_false] at ended
    exact live_take run role (complete.trans ended)
  · have check := recoveryCheck_charged charged (decide_eq_true short)
    have ended := endComplete_eq check only
    simp only [Bool.or_true] at ended
    exact live_take run role (complete.trans ended)

/-! ### UNIT_QUERY and UNIT_RELEASE (R19, R20) -/

theorem tagOut_eq_false {unit : Nat} (out : unit = 0 ∨ 99999999 < unit) : tagInRange unit = false :=
  (tagInRange_eq_false unit).mpr (by omega)

/-- Settles O10, by the range of the tag and whether a record carries it. -/
theorem unitQueryAnswers : Obligations.UnitQueryAnswers := by
  intro s n tag unit run
  have role : permitted .unitQuery (roleOf n) = true := rfl
  refine ⟨fun out => ?_, fun low high => ?_⟩
  · exact live_take run role (r := refuse s .badArgument) (by simp [ownUnitQuery, tagOut_eq_false out])
  have range := (tagInRange_iff unit).mpr ⟨low, high⟩
  refine ⟨fun unknown => ?_, fun u found => ?_⟩
  · exact live_take run role (r := refuse s .noUnit)
      (by simp [ownUnitQuery, range, (unit?_eq_none s unit).mpr unknown])
  · exact live_take run role (r := { state := s, status := .ok, body := .unit u })
      (by simp [ownUnitQuery, range, Option.mem_def.mp found])

/-- A record that is neither ANNOUNCED nor CLOSED is kept (R20). -/
theorem ownUnitRelease_wrongState {s : State} {unit : Nat} {u : UnitRec} (range : tagInRange unit = true)
    (found : s.unit? unit = some u) (h : u.state = .degassing ∨ u.state = .degassed ∨ u.state = .inBatch) :
    ownUnitRelease unit s = refuse s .wrongState := by
  have held : ¬(u.state = .announced ∨ u.state = .closed) := by
    obtain h | h | h := h <;> simp [h]
  simp only [ownUnitRelease, range, found, if_neg held, Bool.not_true, Bool.false_eq_true, if_false]

/-- An ANNOUNCED or CLOSED record is removed and answered (R20). -/
theorem ownUnitRelease_removes {s : State} {unit : Nat} {u : UnitRec} (range : tagInRange unit = true)
    (found : s.unit? unit = some u) (h : u.state = .announced ∨ u.state = .closed) :
    ownUnitRelease unit s =
      { state := s.setUnits (s.units.filter (fun v => v.tag != unit)), status := .ok, body := .unit u } := by
  simp only [ownUnitRelease, range, found, if_pos h, Bool.not_true, Bool.false_eq_true, if_false]

/-- Settles O11, by the role, the range of the tag, and the state of its record. -/
theorem unitReleaseRemoves : Obligations.UnitReleaseRemoves := by
  intro s n tag unit run
  refine ⟨fun role => ?_, fun role out => ?_, fun role low high => ?_⟩
  · have denied : permitted .unitRelease (roleOf n) = false := by simp [permitted, role]
    exact (live_running _ s run).trans (congrArg _ (take_denied n tag _ _ s denied))
  · have role : permitted .unitRelease (roleOf n) = true := by simp [permitted, role]
    exact live_take run role (r := refuse s .badArgument) (by simp [ownUnitRelease, tagOut_eq_false out])
  have role : permitted .unitRelease (roleOf n) = true := by simp [permitted, role]
  have range := (tagInRange_iff unit).mpr ⟨low, high⟩
  refine ⟨fun unknown => ?_, fun u found => ⟨fun held => ?_, fun free => ?_⟩⟩
  · exact live_take run role (r := refuse s .noUnit)
      (by simp [ownUnitRelease, range, (unit?_eq_none s unit).mpr unknown])
  · exact live_take run role (ownUnitRelease_wrongState range found held)
  · have others : (fun v : UnitRec => decide (v.tag ≠ unit)) = (fun v => v.tag != unit) := by
      funext v
      exact Bool.eq_iff_iff.mpr (by simp)
    rw [others]
    exact live_take run role (ownUnitRelease_removes range found free)

/-! ### CABINET_ADMIT (R17, R124, R125) -/

theorem lineOfNode_nodeOfLine (l : FoamLine) : lineOfNode (nodeOfLine l) = some l := by revert l; decide

theorem roleOf_nodeOfLine (l : FoamLine) : roleOf (nodeOfLine l) = .foamLine := by revert l; decide

theorem ownCabinetAdmit_badArgument {s : State} {l : FoamLine} {unit cls : Nat}
    (bad : ¬(1 ≤ unit ∧ unit ≤ 99999999 ∧ 1 ≤ cls ∧ cls ≤ 4)) :
    ownCabinetAdmit (nodeOfLine l) unit cls s = refuse s .badArgument := by
  unfold ownCabinetAdmit
  rw [lineOfNode_nodeOfLine]
  cases named : classOfCode cls with
  | none => rfl
  | some g =>
    have code := (classOfCode_isSome cls).mp (by simp [named])
    refine if_pos ?_
    simp only [Bool.not_eq_true', tagInRange_eq_false]
    omega

/-- A current batch is rewritten in its line's current slot. -/
theorem modCurrent_some {s : State} {l : FoamLine} {bt : Batch} (current : (s.line l).current = some bt)
    (f : Batch → Batch) : s.modCurrent l f = s.setLine l { s.line l with current := some (f bt) } := by
  rw [modCurrent_spec, current, Option.map_some]

section
variable {s : State} {l : FoamLine} {unit cls : Nat} {g : GasClass} (range : tagInRange unit = true)
  (named : classOfCode cls = some g)
include range named

theorem ownCabinetAdmit_notOpen (h : ∀ bt ∈ (s.line l).current, bt.state ≠ .opened) :
    ownCabinetAdmit (nodeOfLine l) unit cls s = refuse s .wrongState := by
  simp only [ownCabinetAdmit, named, lineOfNode_nodeOfLine, range, Bool.not_true, Bool.false_eq_true, if_false]
  cases current : (s.line l).current with
  | none => rfl
  | some bt => exact if_pos (h bt current)

variable {bt : Batch} (current : (s.line l).current = some bt) (isOpen : bt.state = .opened)
include current isOpen

theorem ownCabinetAdmit_noUnit (unknown : s.unit? unit = none) :
    ownCabinetAdmit (nodeOfLine l) unit cls s = refuse s .noUnit := by
  simp [ownCabinetAdmit, named, lineOfNode_nodeOfLine, range, current, isOpen, unknown]

variable {u : UnitRec} (found : s.unit? unit = some u)
include found

theorem ownCabinetAdmit_wrongState (h : u.state ≠ .degassed) :
    ownCabinetAdmit (nodeOfLine l) unit cls s = refuse s .wrongState := by
  simp [ownCabinetAdmit, named, lineOfNode_nodeOfLine, range, current, isOpen, found, h]

variable (degassed : u.state = .degassed)
include degassed

theorem ownCabinetAdmit_classMismatch (h : bt.cls ≠ .mx) (h' : bt.cls ≠ g) :
    ownCabinetAdmit (nodeOfLine l) unit cls s = refuse s .classMismatch := by
  simp [ownCabinetAdmit, named, lineOfNode_nodeOfLine, range, current, isOpen, found, degassed, h, h']

variable (fits : bt.cls = .mx ∨ bt.cls = g)
include fits

theorem ownCabinetAdmit_batchFull (full : 24 ≤ bt.cabinets.length) :
    ownCabinetAdmit (nodeOfLine l) unit cls s = refuse s .batchFull := by
  have taken : ¬(bt.cls ≠ .mx ∧ bt.cls ≠ g) := by tauto
  simp only [ownCabinetAdmit, named, lineOfNode_nodeOfLine, range, current, isOpen, found, degassed, if_neg taken,
    if_pos full, ge_iff_le, ne_eq, not_true, Bool.not_true, Bool.false_eq_true, if_false]

/-- An admission appends the cabinet with the expectation figure of the moment and writes it into the unit record; a
declared foam class that is contradicted is marked, and FOAM_MISMATCH counted (R17, R124, R125). -/
theorem ownCabinetAdmit_booked (room : bt.cabinets.length < 24) {mismatch : Bool}
    (h : mismatch = u.declFoam.any (· != g)) :
    ownCabinetAdmit (nodeOfLine l) unit cls s = {
      state :=
        let weight := s.batches.expect[expectIx u.category g]
        let admitted := (s.setLine l { s.line l with current := some { bt with
          cabinets := bt.cabinets ++ [{ tag := unit, weight := weight, share := none }] } }).modUnit unit (fun v =>
            admittedUnit v l bt.number g weight mismatch)
        if mismatch then admitted.alarm .foamMismatch (some unit) else admitted
      status := .ok
      body := .admitted s.batches.expect[expectIx u.category g] (bt.cabinets.length + 1) } := by
  have taken : ¬(bt.cls ≠ .mx ∧ bt.cls ≠ g) := by tauto
  have room : ¬(bt.cabinets.length ≥ 24) := by omega
  subst h
  simp only [ownCabinetAdmit, named, lineOfNode_nodeOfLine, range, current, isOpen, found, degassed, if_neg taken,
    if_neg room, modCurrent_some current, ne_eq, not_true, Bool.not_true, Bool.false_eq_true, if_false]
  cases u.declFoam <;> rfl

end

/-- Settles O23, clause by clause, from the answers of CABINET_ADMIT; an admission is marked or not by the declared
foam class. -/
theorem cabinetAdmitBooks : Obligations.CabinetAdmitBooks := by
  intro s l tag unit cls run
  have role : permitted .cabinetAdmit (roleOf (nodeOfLine l)) = true := by rw [roleOf_nodeOfLine]; rfl
  refine ⟨fun bad => live_take run role (ownCabinetAdmit_badArgument bad), fun low high g named => ?_⟩
  have range := (tagInRange_iff unit).mpr ⟨low, high⟩
  refine ⟨fun h => live_take run role (ownCabinetAdmit_notOpen range named h), fun bt current isOpen => ?_⟩
  refine ⟨fun unknown => live_take run role (ownCabinetAdmit_noUnit range named current isOpen unknown),
    fun u found => ⟨?_, ?_, ?_, ?_⟩⟩
  · exact fun h => live_take run role (ownCabinetAdmit_wrongState range named current isOpen found h)
  · exact fun degassed h h' =>
      live_take run role (ownCabinetAdmit_classMismatch range named current isOpen found degassed h h')
  · exact fun degassed fits full =>
      live_take run role (ownCabinetAdmit_batchFull range named current isOpen found degassed fits full)
  intro degassed fits room
  have books {mismatch : Bool} := ownCabinetAdmit_booked range named current isOpen found degassed fits room
    (mismatch := mismatch)
  refine ⟨fun matching => ?_, fun declared other => ?_⟩
  · exact live_take run role (books (mismatch := false) (by obtain h | h := matching <;> simp [h]))
  · obtain ⟨d, hd⟩ := Option.ne_none_iff_exists'.mp declared
    have differs : d ≠ g := fun e => other (e ▸ hd)
    exact live_take run role (books (mismatch := true) (by simp [hd, differs]))

/-! ## The values after power-on -/

/-- POWER_ON alone stands counted after reset (R176). -/
theorem reset_alarm_counts (k : Fin 21) :
    (State.reset.alarms.recs[k]).count = if k = alarmIx .powerOn then 1 else 0 := by
  revert k
  decide

/-- Settles O4: the blocks are read off place by place; bays, nodes and lines are all made alike. -/
theorem resetValues : Obligations.ResetValues := by
  refine ⟨rfl, rfl, fun b => ?_, fun b => ?_, fun b => ?_, fun n => ?_, rfl, rfl, fun l => ?_, rfl, rfl, rfl,
    reset_alarm_counts⟩
  all_goals exact Vector.getElem_replicate _

/-! ## The eighth sample of a set (R45, R55, R56) -/

theorem foldl_max_le_iff (xs : List Nat) (a m : Nat) : xs.foldl max a ≤ m ↔ a ≤ m ∧ ∀ x ∈ xs, x ≤ m := by
  induction xs generalizing a with
  | nil => simp
  | cons x rest ih => simp [ih, and_assoc]

theorem le_foldl_min_iff (xs : List Nat) (a m : Nat) : m ≤ xs.foldl min a ↔ m ≤ a ∧ ∀ x ∈ xs, m ≤ x := by
  induction xs generalizing a with
  | nil => simp
  | cons x rest ih => simp [ih, and_assoc]

/-- A spread within a band: no two values lie further apart (R55). -/
theorem spread_le_iff (xs : List Nat) (band : Nat) : spread xs ≤ band ↔ ∀ x ∈ xs, ∀ y ∈ xs, x ≤ y + band := by
  have reach : spread xs ≤ band ↔ ∀ y ∈ xs, xs.foldl max 0 ≤ y + band := by
    rw [spread, Nat.sub_le_iff_le_add, Nat.add_comm, ← Nat.sub_le_iff_le_add, le_foldl_min_iff]
    simp
  simp only [reach, foldl_max_le_iff, Nat.zero_le, true_and]
  exact ⟨fun h x hx y hy => h y hy x hx, fun h y hy x hx => h x hx y hy⟩

/-- A valid sample is in the channel record, and the window it fills has ended (R45, R50, R59). -/
def State.windowDone (s : State) (b : BayIx) (g : Nat × Bool) : State :=
  s.setChannel b { s.channel b with
    lastGross := g.1, under := g.2, silence := some (s.now + 200),
    validRun := min 10 ((s.channel b).validRun + 1), window := none }

/-- A full set is judged steady, or unstable with UNSTABLE_READING counted where it is set 4 outside its band
(R55, R56). -/
theorem judgeSet_reading {s : State} {b : BayIx} {w : Window} {xs : List Nat} {unstable : Bool}
    (steady : unstable = false → spread xs ≤ w.band.getD 0)
    (unsteady : unstable = true → ¬ spread xs ≤ w.band.getD 0 ∧ 4 ≤ w.setNo) :
    s.judgeSet b w xs =
      let ended := s.setChannel b { s.channel b with window := none }
      (if unstable then ended.alarm .unstableReading (some b.val) else ended).deliverReading b w.purpose (mean8 xs)
        unstable := by
  cases unstable with
  | false => simp only [State.judgeSet, if_pos (steady rfl), Bool.false_eq_true, if_false]
  | true =>
    obtain ⟨wide, last⟩ := unsteady rfl
    simp only [State.judgeSet, if_neg wide, if_neg (Nat.not_lt.mpr last), if_true]

/-- The eighth sample on an OK channel whose bay is not FEEDING delivers the reading of its set (R55, R56, R59). -/
theorem exec_eighthSample {s : State} {b : BayIx} {raw : Nat} {w : Window} {unstable : Bool}
    (run : s.inReset = false) (valid : raw < 16777215) (ok : (s.channel b).state = .ok)
    (idle : (s.bay b).state ≠ .feeding) (window : (s.channel b).window = some w) (phase : w.phase = .average)
    (purpose : w.purpose ≠ .zeroCapture) (seven : w.samples.length = 7)
    (steady : unstable = false →
      spread (w.samples ++ [(grossOf raw (s.bay b).zero (s.bay b).scale).1]) ≤ w.band.getD 0)
    (unsteady : unstable = true →
      ¬ spread (w.samples ++ [(grossOf raw (s.bay b).zero (s.bay b).scale).1]) ≤ w.band.getD 0 ∧ 4 ≤ w.setNo) :
    exec (.sample b (.code raw)) s =
      let g := grossOf raw (s.bay b).zero (s.bay b).scale
      let done := s.windowDone b g
      .next ((if unstable then done.alarm .unstableReading (some b.val) else done).deliverReading b w.purpose
        (mean8 (w.samples ++ [g.1])) unstable) := by
  refine (live_running _ s run).trans (congrArg _ ?_)
  have full : ¬ (w.samples ++ [(grossOf raw (s.bay b).zero (s.bay b).scale).1]).length < 8 := by simp [seven]
  have kept (c : Channel) : (s.setChannel b c).watchOverfill b = s.setChannel b c := by
    simp [State.watchOverfill, idle]
  simp only [takeSample, if_pos valid, State.validSample, if_pos ok, kept, State.collect, State.setChannel_channel,
    Channel.heard, window, phase, if_neg purpose, if_neg full, judgeSet_reading steady unsteady,
    State.setChannel_setChannel, State.windowDone]

/-! ## Bookings and the bay (R59, R80, R103) -/

/-- The owner's outcome field, where there is one, answers a deferred FEED_CLOSE (R80). -/
def State.tellOwner (s : State) (n : Node) : State :=
  match (s.node n).outcome with
  | some o => s.releaseDeferred n .feedClose (.outcome o)
  | none => s

/-- The booking of a feed's gain without the feed's own record: the record of its purpose, the owner's outcome field,
and a deferred FEED_CLOSE (R59, R80). -/
def State.bookTold (s : State) (f : Feed) (g : GainResult) : State :=
  ((s.bookToRecord f.purpose g).gainTold f.owner g.gain g.estimated).tellOwner f.owner

section
variable (s : State) (onBays : Vector Bay 8 → Vector Bay 8) (onFeeds : Vector (Option Feed) 8 → Vector (Option Feed) 8)

/-- A change of bays and feeds alone. What neither reads nor writes them comes before it or after it alike. -/
def State.placed : State := { s with bays := onBays s.bays, feeds := onFeeds s.feeds }

theorem setFeed_eq_placed (b : BayIx) (r : Option Feed) : s.setFeed b r = s.placed id (·.set b r) := rfl

theorem releaseDeferred_placed (n : Node) (k : ReqKind) (body : Body) :
    (s.placed onBays onFeeds).releaseDeferred n k body = (s.releaseDeferred n k body).placed onBays onFeeds := by
  have slot : ((s.placed onBays onFeeds).node n).slot = (s.node n).slot := rfl
  unfold State.releaseDeferred
  rw [slot]
  split
  · split <;> rfl
  · rfl

theorem batchDone_placed (l : FoamLine) (bt : Batch) :
    (s.placed onBays onFeeds).batchDone l bt = (s.batchDone l bt).placed onBays onFeeds := by
  have settings : (s.placed onBays onFeeds).params = s.params := rfl
  simp only [State.batchDone, settings]
  split
  · rfl
  · split <;> rfl

theorem completeBatch_placed (l : FoamLine) :
    (s.placed onBays onFeeds).completeBatch l = (s.completeBatch l).placed onBays onFeeds := by
  cases current : (s.line l).current with
  | none =>
    have current' : ((s.placed onBays onFeeds).line l).current = none := current
    simp only [State.completeBatch, current, current']
  | some bt =>
    rw [completeBatch_eq_batchDone s l bt current,
      completeBatch_eq_batchDone (s.placed onBays onFeeds) l bt current, batchDone_placed, releaseDeferred_placed]

theorem bookToRecord_placed (p : FeedPurpose) (g : GainResult) :
    (s.placed onBays onFeeds).bookToRecord p g = (s.bookToRecord p g).placed onBays onFeeds := by
  cases p with
  | unit tag => rfl
  | batch l number k =>
    have current : ((s.placed onBays onFeeds).line l).current = (s.line l).current := rfl
    have booked : (s.placed onBays onFeeds).modCurrent l (·.bookSegment k g)
        = (s.modCurrent l (·.bookSegment k g)).placed onBays onFeeds := rfl
    simp only [State.bookToRecord, State.bookToBatch, current, booked, completeBatch_placed]
    split
    · rfl
    · split
      · split <;> rfl
      · rfl

theorem tellOwner_placed (n : Node) :
    (s.placed onBays onFeeds).tellOwner n = (s.tellOwner n).placed onBays onFeeds := by
  have outcome : ((s.placed onBays onFeeds).node n).outcome = (s.node n).outcome := rfl
  unfold State.tellOwner
  rw [outcome]
  cases (s.node n).outcome with
  | none => rfl
  | some o => exact releaseDeferred_placed s onBays onFeeds n .feedClose (.outcome o)

theorem bookTold_placed (f : Feed) (g : GainResult) :
    (s.placed onBays onFeeds).bookTold f g = (s.bookTold f g).placed onBays onFeeds := by
  unfold State.bookTold
  rw [bookToRecord_placed]
  exact tellOwner_placed ((s.bookToRecord f.purpose g).gainTold f.owner g.gain g.estimated) onBays onFeeds f.owner

end

/-- A booking is the writing of the feed's record and everything else of it. -/
theorem bookGain_eq_bookTold (s : State) (b : BayIx) (f : Feed) (g : GainResult) :
    s.bookGain b f g = (s.bookTold f g).setFeed b (some { f with booked := true }) :=
  tellOwner_placed ((s.bookToRecord f.purpose g).gainTold f.owner g.gain g.estimated) id
    (·.set b (some { f with booked := true })) f.owner

theorem bookTold_base (s : State) (f : Feed) (g : GainResult) : SameBase s (s.bookTold f g) := by
  have told : SameBase s ((s.bookToRecord f.purpose g).gainTold f.owner g.gain g.estimated) :=
    (bookToRecord_base s f.purpose g).trans (setNode_base _ _ _)
  unfold State.bookTold State.tellOwner
  split
  · exact told.trans (releaseDeferred_base _ _ _ _)
  · exact told

/-- A booking leaves the bays as they are. -/
theorem bookTold_bay (s : State) (f : Feed) (g : GainResult) (c : BayIx) : (s.bookTold f g).bay c = s.bay c :=
  calc (s.bookTold f g).bay c = ((s.bookTold f g).placed (fun _ => s.bays) id).bay c :=
        congrArg (·.bay c) (bookTold_placed s (fun _ => s.bays) id f g)
    _ = s.bay c := rfl

/-! ## A feed completed by weight (R59, R100, R101) -/

/-- Bay `b` after the feed `f` it holds is weighed: the settled net is taken, the bay is in state `st`, NEGATIVE_GAIN is
counted where the net lies below the start net, and the feed is freed (R26, R30, R59, R61, R101). -/
def State.feedWeighed (s : State) (b : BayIx) (f : Feed) (st : BayState) (net : Nat) : State :=
  let netted := s.netTaken b st net
  (if net < f.startNet then netted.alarm .negativeGain (some b.val) else netted).setFeed b none

/-- What a weighed feed leaves outside its bay. -/
theorem feedWeighed_node (s : State) (b : BayIx) (f : Feed) (st : BayState) (net : Nat) (n : Node) :
    (s.feedWeighed b f st net).node n = s.node n := by
  unfold State.feedWeighed State.netTaken
  split <;> split <;> rfl

theorem feedWeighed_line (s : State) (b : BayIx) (f : Feed) (st : BayState) (net : Nat) (l : FoamLine) :
    (s.feedWeighed b f st net).line l = s.line l := by
  unfold State.feedWeighed State.netTaken
  split <;> split <;> rfl

theorem feedWeighed_params (s : State) (b : BayIx) (f : Feed) (st : BayState) (net : Nat) :
    (s.feedWeighed b f st net).params = s.params := by
  unfold State.feedWeighed State.netTaken
  split <;> split <;> rfl

theorem feedWeighed_headroom (s : State) (b : BayIx) (f : Feed) (st : BayState) (net : Nat) {v : Vessel}
    (vessel : (s.bay b).vessel = some v) :
    ((s.feedWeighed b f st net).bay b).headroom = some (v.capacity * fillDensity v.cls - net) := by
  unfold State.feedWeighed State.netTaken
  split <;> split <;> simp [Bay.headroom, Bay.maxFill, vessel]

/-- The state of a weighed bay may as well be set last. -/
theorem feedWeighed_state (s : State) (b : BayIx) (f : Feed) (st st' : BayState) (net : Nat) :
    (s.feedWeighed b f st net).placed (fun bays => bays.set b { bays[b] with state := st' }) id
      = s.feedWeighed b f st' net := by
  unfold State.feedWeighed State.netTaken
  split <;> split <;> simp [State.placed, State.setBay, State.setFeed, State.alarm, State.bay]

/-- The feed weighed and its gain booked (R59, R100, R101). -/
def State.feedBooked (s : State) (b : BayIx) (f : Feed) (st : BayState) (net : Nat) (unstable : Bool) : State :=
  (s.feedWeighed b f st net).bookTold f (weighedGain f.startNet net unstable)

theorem feedBooked_hasReserve (s : State) (b : BayIx) (f : Feed) (st : BayState) (net : Nat) (unstable : Bool)
    {v : Vessel} (vessel : (s.bay b).vessel = some v) :
    (s.feedBooked b f st net unstable).hasReserve b
      = decide (s.params.grantReserve ≤ v.capacity * fillDensity v.cls - net) := by
  obtain ⟨-, -, -, -, -, -, params, -⟩ :=
    bookTold_base (s.feedWeighed b f st net) f (weighedGain f.startNet net unstable)
  simp only [State.hasReserve, State.feedBooked, bookTold_bay, feedWeighed_headroom s b f st net vessel, params,
    feedWeighed_params]

/-- The state of the bay may as well be set after the booking. -/
theorem feedBooked_state (s : State) (b : BayIx) (f : Feed) (st st' : BayState) (net : Nat) (unstable : Bool) :
    (s.feedBooked b f st net unstable).setBay b { (s.feedBooked b f st net unstable).bay b with state := st' }
      = s.feedBooked b f st' net unstable := by
  calc _ = (s.feedBooked b f st net unstable).placed (fun bays => bays.set b { bays[b] with state := st' }) id := rfl
    _ = s.feedBooked b f st' net unstable := by
      unfold State.feedBooked
      rw [← bookTold_placed, feedWeighed_state]

/-- A FEED_END reading completes the feed of a CLOSING bay by weight: booking, feed freed, and READY with its scan or
FULL with VESSEL_FULL (R30, R59, R90). -/
theorem deliverFeedEnd_eq {s : State} {b : BayIx} {f : Feed} {v : Vessel} (gross : Nat) (unstable : Bool)
    (closing : (s.bay b).state = .closing) (feed : s.feed b = some f) (unbooked : f.booked = false)
    (vessel : (s.bay b).vessel = some v) :
    s.deliverFeedEnd b gross unstable =
      if s.params.grantReserve ≤ v.capacity * fillDensity v.cls - (gross - v.tare) then
        (s.feedBooked b f .ready (gross - v.tare) unstable).oldestServed b
      else (s.feedBooked b f .full (gross - v.tare) unstable).alarm .vesselFull (some b.val) := by
  have settled : (s.bay b).settledNet gross = gross - v.tare := by simp [Bay.settledNet, vessel]
  have unsettled : ¬(f.booked = true ∨ (s.bay b).state ≠ .closing) := by simp [unbooked, closing]
  have freed : s.deliverFeedEnd b gross unstable
      = (s.feedBooked b f .closing (gross - v.tare) unstable).readyOrFull b := by
    simp only [State.deliverFeedEnd, feed, if_neg unsettled, settled, weighedGain, decide_eq_true_eq,
      bookGain_eq_bookTold, State.setFeed_setFeed, takeSettledNet_eq_netTaken]
    rw [closing, setFeed_eq_placed, ← bookTold_placed]
    rfl
  simp only [freed, State.readyOrFull, feedBooked_hasReserve s b f _ _ unstable vessel, decide_eq_true_eq,
    feedBooked_state, scan_eq_oldestServed]

/-! ### What a booking leaves, by purpose and slot -/

theorem awaits_eq_false {x : Slot} {k : ReqKind} (h : x.awaits k = false) (tag : Nat) : x ≠ .deferred tag k := by
  rintro rfl
  simp [Slot.awaits] at h

theorem releaseDeferred_silent {s : State} {n : Node} {k : ReqKind} (h : (s.node n).slot.awaits k = false)
    (body : Body) : s.releaseDeferred n k body = s := by
  obtain ⟨tag, slot, -⟩ | ⟨-, stands⟩ := releaseDeferred_cases s n k body
  · exact absurd slot (awaits_eq_false h tag)
  · exact stands

theorem releaseDeferred_released {s : State} {n : Node} {k : ReqKind} {tag : Nat}
    (h : (s.node n).slot = .deferred tag k) (body : Body) : s.releaseDeferred n k body = s.released n tag k body := by
  simp only [State.releaseDeferred, h, if_true]
  rfl

theorem tellOwner_silent {s : State} {n : Node} (h : (s.node n).slot.awaits .feedClose = false) :
    s.tellOwner n = s := by
  unfold State.tellOwner
  split
  · exact releaseDeferred_silent h _
  · rfl

theorem tellOwner_released {s : State} {n : Node} {tag : Nat} {o : FeedOutcome}
    (h : (s.node n).slot = .deferred tag .feedClose) (outcome : (s.node n).outcome = some o) :
    s.tellOwner n = s.released n tag .feedClose (.outcome o) := by
  simp only [State.tellOwner, outcome, releaseDeferred_released h]

/-- A gain told to a node changes its outcome field alone. -/
theorem gainTold_node (s : State) (n : Node) (gain : Nat) (estimated : Bool) :
    (s.gainTold n gain estimated).node n = { s.node n with
      outcome := (s.node n).outcome.map (fun o => { o with settled := true, gain := some gain, estimated := estimated }) } :=
  State.setNode_node s n _

/-- A gain that reaches its record while no FEED_CLOSE waits is told to the owner, and that is all (R80). -/
theorem bookTold_silent {s t : State} {f : Feed} {g : GainResult} (record : s.bookToRecord f.purpose g = t)
    (h : (t.node f.owner).slot.awaits .feedClose = false) :
    s.bookTold f g = t.gainTold f.owner g.gain g.estimated := by
  subst record
  exact tellOwner_silent (by rw [gainTold_node]; exact h)

/-- A deferred FEED_CLOSE is answered with the outcome field that the gain has just reached (R80). -/
theorem bookTold_released {s t : State} {f : Feed} {g : GainResult} {tag : Nat} {o : FeedOutcome}
    (record : s.bookToRecord f.purpose g = t) (h : (t.node f.owner).slot = .deferred tag .feedClose)
    (outcome : (t.node f.owner).outcome = some o) :
    s.bookTold f g = (t.gainTold f.owner g.gain g.estimated).released f.owner tag .feedClose
      (.outcome { o with settled := true, gain := some g.gain, estimated := g.estimated }) := by
  subst record
  refine tellOwner_released (by rw [gainTold_node]; exact h) ?_
  rw [gainTold_node]
  simp only [outcome, Option.map_some]

/-- A gain that does not settle the last segment of a CLOSING batch is written into its segment (R107, R116). -/
theorem bookToBatch_stays {s : State} {l : FoamLine} {bt : Batch} {k : Nat} {g : GainResult}
    (current : (s.line l).current = some bt)
    (h : bt.state ≠ .closing ∨ ∃ x ∈ (bt.bookSegment k g).segments, x.settled = false) :
    s.bookToBatch l bt.number k g
      = s.setLine l { s.line l with current := some (bt.bookSegment k g) } := by
  have goesOn : ¬(bt.state = .closing ∧ (bt.bookSegment k g).allSettled = true) := by
    rintro ⟨closing, settled⟩
    obtain h | ⟨x, hx, unsettled⟩ := h
    · exact h closing
    · exact absurd (List.all_eq_true.mp settled x hx) (by simp [unsettled])
  simp only [State.bookToBatch, current, if_true, if_neg goesOn, modCurrent_some current]

/-- A completion writes its line's slots whole, whatever the current slot held. -/
theorem batchDone_setLine (s : State) (l : FoamLine) (current : Option Batch) (bt : Batch) :
    (s.setLine l { s.line l with current := current }).batchDone l bt = s.batchDone l bt := by
  simp only [State.batchDone, State.setLine_line, State.setLine_setLine, State.setLine_params, State.setLine_units]

/-- The gain that settles the last segment of a CLOSING batch completes it (R116, R130). -/
theorem bookToBatch_completes {s : State} {l : FoamLine} {bt : Batch} {k : Nat} {g : GainResult}
    (current : (s.line l).current = some bt) (closing : bt.state = .closing)
    (settled : ∀ x ∈ (bt.bookSegment k g).segments, x.settled = true) :
    s.bookToBatch l bt.number k g
      = (s.batchDone l (bt.bookSegment k g)).releaseDeferred (nodeOfLine l) .foamClose (bt.bookSegment k g).doneBody := by
  have last : bt.state = .closing ∧ (bt.bookSegment k g).allSettled = true := ⟨closing, List.all_eq_true.mpr settled⟩
  simp only [State.bookToBatch, current, if_true, if_pos last, modCurrent_some current]
  rw [completeBatch_eq_batchDone _ l (bt.bookSegment k g) (by simp), batchDone_setLine]

theorem batchDone_node (s : State) (l : FoamLine) (bt : Batch) (n : Node) : (s.batchDone l bt).node n = s.node n := by
  unfold State.batchDone
  dsimp only
  split
  · rfl
  · split <;> rfl

/-- A reply released and a gain told to one node, in either order. -/
theorem gainTold_released (s : State) (n : Node) (tag : Nat) (k : ReqKind) (body : Body) (gain : Nat) (estimated : Bool) :
    (s.released n tag k body).gainTold n gain estimated = (s.gainTold n gain estimated).released n tag k body := by
  have swap (t : State) (p : Pli) (r : NodeRec) : (t.setPli p).setNode n r = (t.setNode n r).setPli p := rfl
  simp only [State.released, State.gainTold, State.setPli_node, State.setNode_node, State.setNode_pli, swap,
    State.setNode_setNode]

/-- The weighed gain of a batch's last segment completes the batch and answers its deferred FOAM_CLOSE (R130). -/
theorem bookTold_completes {s : State} {f : Feed} {l : FoamLine} {bt : Batch} {k tag : Nat} {g : GainResult}
    (purpose : f.purpose = .batch l bt.number k) (owner : f.owner = nodeOfLine l)
    (current : (s.line l).current = some bt) (closing : bt.state = .closing)
    (settled : ∀ x ∈ (bt.bookSegment k g).segments, x.settled = true)
    (slot : (s.node f.owner).slot = .deferred tag .foamClose) :
    s.bookTold f g = ((s.batchDone l (bt.bookSegment k g)).gainTold f.owner g.gain g.estimated).released f.owner tag
      .foamClose (bt.bookSegment k g).doneBody := by
  have record : s.bookToRecord f.purpose g
      = (s.batchDone l (bt.bookSegment k g)).released f.owner tag .foamClose (bt.bookSegment k g).doneBody := by
    rw [purpose, owner]
    refine (bookToBatch_completes current closing settled).trans (releaseDeferred_released ?_ _)
    rw [batchDone_node, ← owner, slot]
  rw [bookTold_silent record (by simp [State.released, Slot.awaits]), gainTold_released]

/-- The weighed gain of a unit's feed, written out (R10, R100, R101). -/
theorem bookToRecord_unit {s : State} {p : FeedPurpose} {unit : Nat} (purpose : p.unit? = some unit) (start net : Nat)
    (unstable : Bool) :
    s.bookToRecord p (weighedGain start net unstable) = s.modUnit unit (fun u => { u with
      recovered := min 999999 (u.recovered + (net - start)), feedCount := min 255 (u.feedCount + 1),
      marks := { u.marks with
        negGain := u.marks.negGain || decide (net < start), unstable := u.marks.unstable || unstable } }) := by
  cases p with
  | unit tag =>
    obtain rfl : tag = unit := Option.some.inj purpose
    simp only [State.bookToRecord, UnitRec.book, weighedGain, Bool.or_false]
  | batch l number k => exact absurd purpose nofun

/-! ### The statement -/

/-- Settles O38: the eighth sample delivers the FEED_END reading, which books the gain; what the booking leaves goes by
the purpose of the feed and the slot of its owner. -/
theorem weighedFeedBooks : Obligations.WeighedFeedBooks := by
  intro s b raw unstable run valid ok closing w window phase purpose seven g taken steady calm rough f feed unbooked v
    vessel net gain fits heard judged netted weighed freed
  have judgedBay : judged.bay b = s.bay b := by simp only [judged]; split <;> rfl
  have judgedFeed : judged.feed b = some f := by simp only [judged]; split <;> exact feed
  have judgedParams : judged.params = s.params := by simp only [judged]; split <;> rfl
  have judgedNode (n : Node) : judged.node n = s.node n := by simp only [judged]; split <;> rfl
  have judgedLine (l : FoamLine) : judged.line l = s.line l := by simp only [judged]; split <;> rfl
  have booked : exec (.sample b (.code raw)) s
      = .next (freed (weighed.bookTold f (weighedGain f.startNet net unstable))) := by
    rw [exec_eighthSample run valid ok (by simp [closing]) window phase (by simp [purpose]) seven
      (fun h => (spread_le_iff _ _).mpr (calm h)) (fun h => by rw [spread_le_iff]; exact rough h), purpose]
    have delivered := deliverFeedEnd_eq (mean8 taken) unstable (judgedBay ▸ closing) judgedFeed unbooked
      (judgedBay ▸ vessel)
    rw [judgedParams] at delivered
    refine congrArg Host.Outcome.next (delivered.trans ?_)
    by_cases h : fits
    · simp only [freed, weighed, netted, if_pos h]
      exact if_pos h
    · simp only [freed, weighed, netted, if_neg h]
      exact if_neg h
  have node (n : Node) : weighed.node n = s.node n := (feedWeighed_node judged b f _ net n).trans (judgedNode n)
  have line (l : FoamLine) : weighed.line l = s.line l := (feedWeighed_line judged b f _ net l).trans (judgedLine l)
  refine ⟨fun unit hu => ?_, fun l hl bt current k batch => ?_⟩
  · have record := bookToRecord_unit (s := weighed) hu f.startNet net unstable
    refine ⟨fun silent => ?_, fun tag slot o outcome => ?_⟩
    · rw [booked, bookTold_silent record (by rw [modUnit_spec, State.setUnits_node, node]; exact silent)]
      rfl
    · rw [booked, bookTold_released record (by rw [modUnit_spec, State.setUnits_node, node]; exact slot)
        (by rw [modUnit_spec, State.setUnits_node, node]; exact outcome)]
      rfl
  · have current' : (weighed.line l).current = some bt := (congrArg _ (line l)).trans current
    refine ⟨fun silent goesOn => ?_, fun closing settled owner tag slot => ?_⟩
    · have record : weighed.bookToRecord f.purpose (weighedGain f.startNet net unstable) = _ :=
        (congrArg (weighed.bookToRecord · _) batch).trans (bookToBatch_stays current' goesOn)
      rw [booked, bookTold_silent record (by rw [State.setLine_node, node]; exact silent), line]
      rfl
    · rw [booked, bookTold_completes (g := weighedGain f.startNet net unstable) batch owner current' closing settled
        (by rw [node]; exact slot)]
      rfl

end Sys2Proof.Machine
end

section
namespace Sys2Proof.Machine

/-! ## What a command can do: the acts

Every command is a chain of the shared operations below, each with what its caller has checked before it. The invariants
are proved for one act at a time, and the walk through the commands is made once, for all of them. -/

/-- A bay in this state holds no feed: it is neither FEEDING nor CLOSING (R25). -/
abbrev BayState.idle (st : BayState) : Prop := st ≠ .feeding ∧ st ≠ .closing

/-- Net and book of a bay within their range (R22). -/
abbrev Bay.figuresOk (r : Bay) : Prop := r.net ≤ 1000000 ∧ r.book ≤ 1000000

/-- The blocks that slots, bays, feeds, interlocks and the plant line are held in stand. -/
structure SameBlocks (s t : State) : Prop where
  inReset : t.inReset = s.inReset
  pli : t.pli = s.pli
  nodes : t.nodes = s.nodes
  bays : t.bays = s.bays
  channels : t.channels = s.channels
  feeds : t.feeds = s.feeds
  valves : t.valves = s.valves
  waits : t.waits = s.waits
  interlock : t.interlock = s.interlock

/-- A flammable gas is asked for with the permit on, and any gas with the E-stop clear (R66, R90). -/
abbrev GasFree (s : State) (g : GasClass) : Prop :=
  s.interlock.estop = false ∧ (flammable g = true → s.permitOn = true)

/-- The window of a channel has ended, and an unstable reading is counted (R56, R59). -/
def State.windowEnded (s : State) (b : BayIx) (unstable : Bool) : State :=
  let ended := s.setChannel b { s.channel b with window := none }
  if unstable then ended.alarm .unstableReading (some b.val) else ended

/-- What reaches no bay, channel, feed, valve or entry. -/
inductive Aside (s : State) : State → Prop where
  /-- Units, batches, settings, alarms, store, switches, queue or clock. -/
  | records {t : State} (blocks : SameBlocks s t) (settings : SettingsOk s → SettingsOk t) : Aside s t
  /-- A node record; no slot is emptied. -/
  | node (n : Node) (r : NodeRec) (slot : r.slot = .empty → (s.node n).slot = .empty)
      (range : (s.node n).inRange → r.inRange) : Aside s (s.setNode n r)
  /-- The delivery list. -/
  | delivery (ns : List Node) : Aside s (s.setPli { s.pli with delivery := ns })

/-- One shared operation, with what its caller has checked. -/
inductive Act (s : State) : State → Prop where
  | aside {t : State} (a : Aside s t) : Act s t
  /-- The figures of a bay in its state. -/
  | figures (b : BayIx) (r : Bay) (state : r.state = (s.bay b).state) (watch : r.closeWatch = (s.bay b).closeWatch)
      (range : (s.bay b).figuresOk → r.figuresOk) : Act s (s.setBay b r)
  /-- A bay without a feed goes to another such state. -/
  | restate (b : BayIx) (r : Bay) (before : (s.bay b).state.idle) (after : r.state.idle)
      (watch : r.closeWatch = (s.bay b).closeWatch ∨ r.closeWatch = none)
      (range : (s.bay b).figuresOk → r.figuresOk) : Act s (s.setBay b r)
  /-- The feed place of a bay without a feed is cleared. -/
  | unfeed (b : BayIx) (idle : (s.bay b).state.idle) : Act s (s.setFeed b none)
  /-- A channel record; no FEED_END window opens. -/
  | channel (b : BayIx) (r : Channel)
      (purpose : ∀ w ∈ r.window, w.purpose = .feedEnd → ∃ w' ∈ (s.channel b).window, w'.purpose = .feedEnd)
      (range : (s.channel b).inRange → r.inRange) : Act s (s.setChannel b r)
  /-- The estimate, deadline or weight flag of a feed. -/
  | feed (b : BayIx) (f f' : Feed) (held : s.feed b = some f) (owner : f'.owner = f.owner) (cls : f'.cls = f.cls)
      (state : f'.state = f.state) (booked : f'.booked = f.booked) (phased : f.phased → f'.phased) :
      Act s (s.setFeed b (some f'))
  | wait (n : Node) (tag : Nat) (k : ReqKind) (g : GasClass) (w : WaitPurpose) (slot : (s.node n).slot = .empty)
      (free : s.ownedBay n = none) (gas : GasFree s g) : Act s (s.joinWait n tag k g w)
  | grant (b : BayIx) (n : Node) (w : WaitPurpose) (g : GasClass) (ready : (s.bay b).state = .ready)
      (slot : (s.node n).slot = .empty) (free : s.ownedBay n = none) (gas : GasFree s g) : Act s (s.grant b n w g)
  | scan (b : BayIx) (unclosed : (s.bay b).state ≠ .closing) : Act s (s.scan b)
  | leave (e : WaitEntry) (st : Status) : Act s (s.endEntry e st)
  | service (b : BayIx) (idle : (s.bay b).state.idle) : Act s (s.enterService b)
  | endFeed (b : BayIx) (c : EndCause) : Act s (s.endFeed b c)
  | bookLoss (b : BayIx) (closing : (s.bay b).state = .closing) (window : (s.channel b).window = none) :
      Act s (s.bookByEstimate b)
  | leaveClosing (b : BayIx) : Act s (s.leaveClosing b)
  | reading (b : BayIx) (w : Window) (gross : Nat) (unstable : Bool) (window : w ∈ (s.channel b).window)
      (range : (s.channel b).inRange → w.purpose ≠ .zeroCapture → gross ≤ 1000000) :
      Act s ((s.windowEnded b unstable).deliverReading b w.purpose gross unstable)
  | confirm (b : BayIx) (closing : (s.bay b).state = .closing) (watch : (s.bay b).closeWatch ≠ none) :
      Act s (s.confirmClose b)
  | expire (b : BayIx) (watch : (s.bay b).closeWatch ≠ none) : Act s (s.expireClose b)
  | interlock (i : Interlock) (estop : i.estop = s.interlock.estop) : Act s (s.setInterlock i)
  | estop : Act s (assertEstop s)

/-- A chain of asides. -/
def Asides (s t : State) : Prop := Relation.ReflTransGen Aside s t

theorem Asides.refl (s : State) : Asides s s := Relation.ReflTransGen.refl

theorem Asides.act {s t u : State} (h : Asides s t) (a : Aside t u) : Asides s u := Relation.ReflTransGen.tail h a

/-- What relates a state to itself, and goes on over one aside, goes on over a chain of them. -/
theorem Asides.relates {R : State → State → Prop} {s t : State} (h : Asides s t) (refl : R s s)
    (step : ∀ t u, R s t → Aside t u → R s u) : R s t := by
  induction h with
  | refl => exact refl
  | tail _ a ih => exact step _ _ ih a

/-- A chain of acts. -/
def Acts (s t : State) : Prop := Relation.ReflTransGen Act s t

theorem Acts.refl (s : State) : Acts s s := Relation.ReflTransGen.refl

theorem Acts.trans {s t u : State} (h : Acts s t) (k : Acts t u) : Acts s u := Relation.ReflTransGen.trans h k

theorem Acts.act {s t u : State} (h : Acts s t) (a : Act t u) : Acts s u := Relation.ReflTransGen.tail h a

/-- What one act keeps, a chain of them keeps. -/
theorem Acts.keeps {P : State → Prop} (h : ∀ s t, Act s t → P s → P t) {s t : State} (acts : Acts s t) (hs : P s) :
    P t := by
  induction acts with
  | refl => exact hs
  | tail _ a ih => exact h _ _ a ih

/-- A fold of chains is a chain. -/
theorem Acts.foldl {α : Type} {f : State → α → State} (h : ∀ t x, Acts t (f t x)) (xs : List α) (s : State) :
    Acts s (xs.foldl f s) := by
  induction xs generalizing s with
  | nil => exact .refl s
  | cons x xs ih => exact (h s x).trans (ih (f s x))

/-! ### Settings, alarms, lines and slots -/

/-- A count saturates at 255 (R176). -/
theorem settingsOk_alarm {s : State} (k : AlarmKind) (x : Option Nat) (v : Int) (h : SettingsOk s) :
    SettingsOk (s.alarm k x v) := by
  obtain ⟨nodes, alarms, rest⟩ := h
  refine ⟨nodes, fun j => ?_, rest⟩
  have kept := alarms j
  simp only [State.alarm_alarms, AlarmSet.count, Fin.getElem_fin, Vector.getElem_set] at kept ⊢
  split
  · exact min_le_left _ _
  · exact kept

theorem settingsOk_setLine {s : State} {l : FoamLine} {r : LineRec}
    (h : (s.line l).lastNumber ≤ 65535 → r.lastNumber ≤ 65535) (ok : SettingsOk s) : SettingsOk (s.setLine l r) := by
  obtain ⟨nodes, alarms, params, expect, lines⟩ := ok
  refine ⟨nodes, alarms, params, expect, fun m => ?_⟩
  by_cases e : m = l
  · subst e
    simpa using h (lines m)
  · rw [State.setLine_line_ne s l r m e]
    exact lines m

theorem Asides.frame {s t u : State} (h : Asides s t) (blocks : SameBlocks t u)
    (settings : u.alarms = t.alarms ∧ u.params = t.params ∧ u.batches = t.batches) : Asides s u := by
  obtain ⟨alarms, params, batches⟩ := settings
  refine h.act (.records blocks fun ok => ?_)
  simpa only [SettingsOk, State.node, State.line, blocks.nodes, alarms, params, batches] using ok

theorem Asides.replied {s t : State} (h : Asides s t) (n : Node) (tag : Nat) (k : ReqKind) (st : Status) (b : Body) :
    Asides s (t.replied n tag k st b) :=
  h.frame ⟨rfl, rfl, rfl, rfl, rfl, rfl, rfl, rfl, rfl⟩ ⟨rfl, rfl, rfl⟩

theorem Asides.setUnits {s t : State} (h : Asides s t) (us : List UnitRec) : Asides s (t.setUnits us) :=
  h.frame ⟨rfl, rfl, rfl, rfl, rfl, rfl, rfl, rfl, rfl⟩ ⟨rfl, rfl, rfl⟩

theorem Asides.setStoreOp {s t : State} (h : Asides s t) (op : StoreOp) : Asides s (t.setStoreOp op) :=
  h.frame ⟨rfl, rfl, rfl, rfl, rfl, rfl, rfl, rfl, rfl⟩ ⟨rfl, rfl, rfl⟩

theorem Asides.setSwitch {s t : State} (h : Asides s t) (b : BayIx) (closed : Bool) : Asides s (t.setSwitch b closed) :=
  h.frame ⟨rfl, rfl, rfl, rfl, rfl, rfl, rfl, rfl, rfl⟩ ⟨rfl, rfl, rfl⟩

theorem Asides.advance {s t : State} (h : Asides s t) (arrival : Nat) : Asides s (t.advance arrival) :=
  h.frame ⟨rfl, rfl, rfl, rfl, rfl, rfl, rfl, rfl, rfl⟩ ⟨rfl, rfl, rfl⟩

theorem Asides.alarm {s t : State} (h : Asides s t) (k : AlarmKind) (x : Option Nat) (v : Int) : Asides s (t.alarm k x v) :=
  h.act (.records ⟨rfl, rfl, rfl, rfl, rfl, rfl, rfl, rfl, rfl⟩ (settingsOk_alarm k x v))

theorem Asides.setLine {s t : State} (h : Asides s t) (l : FoamLine) {r : LineRec}
    (range : (t.line l).lastNumber ≤ 65535 → r.lastNumber ≤ 65535) : Asides s (t.setLine l r) :=
  h.act (.records ⟨rfl, rfl, rfl, rfl, rfl, rfl, rfl, rfl, rfl⟩ (settingsOk_setLine range))

theorem Asides.modCurrent {s t : State} (h : Asides s t) (l : FoamLine) (f : Batch → Batch) : Asides s (t.modCurrent l f) :=
  h.setLine l id

theorem Asides.setSlot {s t : State} (h : Asides s t) (n : Node) {x : Slot} (filled : x ≠ .empty) : Asides s (t.setSlot n x) :=
  h.act (.node n _ (fun e => absurd e filled) id)

theorem Asides.deliver {s t : State} (h : Asides s t) (n : Node) (r : SlotReply) : Asides s (t.deliver n r) :=
  (h.setSlot n (x := .deliverable r) nofun).act (.delivery (t.pli.delivery ++ [n]))

theorem Asides.releaseDeferred {s t : State} (h : Asides s t) (n : Node) (k : ReqKind) (b : Body) :
    Asides s (t.releaseDeferred n k b) := by
  obtain ⟨tag, -, e⟩ | ⟨-, e⟩ := releaseDeferred_cases t n k b
  · rw [e]; exact h.deliver n _
  · rwa [e]

/-! ### Bookings and completions, as far as they reach units, batches, owners and slots -/

theorem Asides.batchDone {s t : State} (h : Asides s t) (l : FoamLine) (bt : Batch) : Asides s (t.batchDone l bt) := by
  have closed := (h.setLine l (r := { t.line l with current := none, previous := some (bt.done t.params) }) id).setUnits
    ((bt.done t.params).cabinets.foldl (fun us c => us.map (fun u =>
      if u.tag = c.tag then { u with state := .closed, foamShare := c.share } else u)) t.units)
  unfold State.batchDone
  dsimp only
  split
  · exact closed.alarm _ _ _
  split
  · exact closed.alarm _ _ _
  · exact closed

theorem Asides.completeBatch {s t : State} (h : Asides s t) (l : FoamLine) : Asides s (t.completeBatch l) := by
  cases current : (t.line l).current with
  | none => simpa only [State.completeBatch, current] using h
  | some bt =>
    rw [completeBatch_eq_batchDone t l bt current]
    exact (h.batchDone l bt).releaseDeferred _ _ _

theorem Asides.bookToRecord {s t : State} (h : Asides s t) (p : FeedPurpose) (g : GainResult) :
    Asides s (t.bookToRecord p g) := by
  cases p with
  | unit tag => exact h.setUnits _
  | batch l number k =>
    have booked := h.modCurrent l (·.bookSegment k g)
    unfold State.bookToRecord State.bookToBatch
    dsimp only
    split
    · exact h
    split
    · split
      · exact booked.completeBatch l
      · exact booked
    · exact h

theorem Asides.bookTold {s t : State} (h : Asides s t) (f : Feed) (g : GainResult) : Asides s (t.bookTold f g) := by
  have told : Asides s ((t.bookToRecord f.purpose g).gainTold f.owner g.gain g.estimated) :=
    (h.bookToRecord f.purpose g).act (.node f.owner _ id id)
  unfold State.bookTold State.tellOwner
  split
  · exact told.releaseDeferred _ _ _
  · exact told

/-! ### Acts that reach no bay -/

theorem Acts.asides {s t u : State} (h : Acts s t) (k : Asides t u) : Acts s u :=
  h.trans (Relation.ReflTransGen.mono (fun _ _ a => Act.aside a) t u k)

theorem Acts.node {s t : State} (h : Acts s t) (n : Node) (r : NodeRec)
    (slot : r.slot = .empty → (t.node n).slot = .empty) (range : (t.node n).inRange → r.inRange) :
    Acts s (t.setNode n r) := h.act (.aside (.node n r slot range))

theorem Acts.frame {s t u : State} (h : Acts s t) (blocks : SameBlocks t u)
    (settings : u.alarms = t.alarms ∧ u.params = t.params ∧ u.batches = t.batches) : Acts s u :=
  h.asides ((Asides.refl t).frame blocks settings)

theorem Acts.replied {s t : State} (h : Acts s t) (n : Node) (tag : Nat) (k : ReqKind) (st : Status) (b : Body) :
    Acts s (t.replied n tag k st b) := h.asides ((Asides.refl t).replied n tag k st b)

theorem Acts.setUnits {s t : State} (h : Acts s t) (us : List UnitRec) : Acts s (t.setUnits us) :=
  h.asides ((Asides.refl t).setUnits us)

theorem Acts.setStoreOp {s t : State} (h : Acts s t) (op : StoreOp) : Acts s (t.setStoreOp op) :=
  h.asides ((Asides.refl t).setStoreOp op)

theorem Acts.setSwitch {s t : State} (h : Acts s t) (b : BayIx) (closed : Bool) : Acts s (t.setSwitch b closed) :=
  h.asides ((Asides.refl t).setSwitch b closed)

theorem Acts.advance {s t : State} (h : Acts s t) (arrival : Nat) : Acts s (t.advance arrival) :=
  h.asides ((Asides.refl t).advance arrival)

theorem Acts.alarm {s t : State} (h : Acts s t) (k : AlarmKind) (x : Option Nat) (v : Int) : Acts s (t.alarm k x v) :=
  h.asides ((Asides.refl t).alarm k x v)

theorem Acts.setLine {s t : State} (h : Acts s t) (l : FoamLine) {r : LineRec}
    (range : (t.line l).lastNumber ≤ 65535 → r.lastNumber ≤ 65535) : Acts s (t.setLine l r) :=
  h.asides ((Asides.refl t).setLine l range)

theorem Acts.modCurrent {s t : State} (h : Acts s t) (l : FoamLine) (f : Batch → Batch) : Acts s (t.modCurrent l f) :=
  h.asides ((Asides.refl t).modCurrent l f)

theorem Acts.setSlot {s t : State} (h : Acts s t) (n : Node) {x : Slot} (filled : x ≠ .empty) : Acts s (t.setSlot n x) :=
  h.asides ((Asides.refl t).setSlot n filled)

theorem Acts.completeBatch {s t : State} (h : Acts s t) (l : FoamLine) : Acts s (t.completeBatch l) :=
  h.asides ((Asides.refl t).completeBatch l)

/-! ### Requests about feeds and batches (Chapters 4, 5 and 7) -/

/-- The vessel choice finds a candidate (R87). -/
theorem firstBay_mem {s : State} {g : GasClass} {bs : List BayIx} {b : BayIx} (h : s.firstBay g bs = some b) :
    b ∈ bs := by
  induction bs generalizing b with
  | nil => exact absurd h nofun
  | cons a rest ih =>
    unfold State.firstBay at h
    split at h
    · exact List.mem_cons.mpr (.inl (Option.some.inj h).symm)
    · rename_i c first
      have found := Option.some.inj h
      split at found
      · exact found ▸ List.mem_cons_of_mem a (ih first)
      · exact found ▸ List.mem_cons_self

theorem chooseVessel_ready {s : State} {g : GasClass} {b : BayIx} (h : s.chooseVessel g = some b) :
    (s.bay b).state = .ready := by
  obtain ⟨-, candidate⟩ := List.mem_filter.mp (firstBay_mem h)
  simp only [State.candidate, Bool.and_eq_true, beq_iff_eq] at candidate
  obtain ⟨⟨⟨⟨ready, -⟩, -⟩, -⟩, -⟩ := candidate
  exact ready

/-- The Wait List's decision on a request whose node has an empty slot and no feed (R66, R88). -/
theorem askFeed_acts {s : State} {n : Node} (tag : Nat) (k : ReqKind) (g : GasClass) (w : WaitPurpose)
    (slot : (s.node n).slot = .empty) (free : s.ownedBay n = none) : Acts s (s.askFeed n tag k g w).state := by
  unfold State.askFeed
  split
  · exact .refl s
  rename_i estop
  split
  · exact .refl s
  rename_i permit
  have gas : GasFree s g := ⟨by simpa using estop, fun burns => by simpa [burns] using permit⟩
  unfold State.decideFeed
  split
  · rename_i b chosen
    exact (Acts.refl s).act (.grant b n w g (chooseVessel_ready chosen) slot free gas)
  split
  · exact (Acts.refl s).act (.wait n tag k g w slot free gas)
  · exact .refl s

theorem askForBatch_acts {s : State} {n : Node} (tag : Nat) (k : ReqKind) (l : FoamLine) (bt : Batch)
    (slot : (s.node n).slot = .empty) (free : s.ownedBay n = none) : Acts s (askForBatch s n tag k l bt).state := by
  have asked := askFeed_acts tag k bt.cls (.batch l bt.number) slot free
  unfold askForBatch
  dsimp only
  split
  · exact asked.modCurrent l _
  · exact asked

theorem ownFoamOpen_acts (s : State) (n : Node) (tag cls : Nat) : Acts s (ownFoamOpen n tag cls s).state := by
  unfold ownFoamOpen
  split
  · exact .refl s
  · exact .refl s
  rename_i g l _ _
  split
  · exact .refl s
  split
  · exact .refl s
  rename_i free
  split
  · exact .refl s
  rename_i slot
  have numbered : nextBatchNumber (s.line l).lastNumber ≤ 65535 := by
    unfold nextBatchNumber
    split <;> omega
  exact ((Acts.refl s).setLine l fun _ => numbered).trans
    (askForBatch_acts tag .foamOpen l _ (by simpa using slot) (by simpa using free))

theorem ownFoamResume_acts (s : State) (n : Node) (tag : Nat) : Acts s (ownFoamResume n tag s).state := by
  unfold ownFoamResume
  split
  · exact .refl s
  split
  · exact .refl s
  split
  · exact .refl s
  split
  · exact .refl s
  split
  · exact .refl s
  rename_i free
  split
  · exact .refl s
  rename_i slot
  exact askForBatch_acts tag .foamResume _ _ (by simpa using slot) (by simpa using free)

theorem ownCabinetAdmit_acts (s : State) (n : Node) (unit cls : Nat) : Acts s (ownCabinetAdmit n unit cls s).state := by
  unfold ownCabinetAdmit
  split
  · exact .refl s
  · exact .refl s
  rename_i g l _ _
  split
  · exact .refl s
  split
  · exact .refl s
  split
  · exact .refl s
  split
  · exact .refl s
  split
  · exact .refl s
  split
  · exact .refl s
  split
  · exact .refl s
  have booked (f : Batch → Batch) (v : UnitRec → UnitRec) : Acts s ((s.modCurrent l f).modUnit unit v) :=
    ((Acts.refl s).modCurrent l f).setUnits _
  dsimp only
  split
  · split
    · exact (booked _ _).alarm _ _ _
    · exact booked _ _
  · exact booked _ _

theorem Acts.closeStalled {s t : State} (h : Acts s t) (n : Node) (tag : Nat) (l : FoamLine) (bt : Batch) :
    Acts s (closeStalled n tag l bt t).state := by
  unfold Machine.closeStalled
  split
  · exact h.completeBatch l
  split
  · exact (h.modCurrent l _).setSlot n nofun
  · exact h

theorem closeOpen_acts (s : State) (n : Node) (tag : Nat) (l : FoamLine) (b : BayIx) :
    Acts s (closeOpen n tag l b s).state := by
  have closed := ((Acts.refl s).modCurrent l (fun x => { x with state := .closing })).act (.endFeed b .closed)
  unfold closeOpen
  dsimp only
  split
  · exact closed
  split
  · exact closed.setSlot n nofun
  · exact .refl s

theorem ownFoamClose_acts (s : State) (n : Node) (tag : Nat) : Acts s (ownFoamClose n tag s).state := by
  have stalled : ∀ l bt, Acts s (closeStalled n tag l bt s).state := (Acts.refl s).closeStalled n tag
  unfold ownFoamClose
  split
  · exact .refl s
  split
  · exact .refl s
  split
  · exact .refl s
  · exact .refl s
  · exact stalled _ _
  · split
    · exact ((Acts.refl s).act (.leave _ .withdrawn)).closeStalled n tag _ _
    · exact stalled _ _
  · split
    · exact closeOpen_acts s n tag _ _
    · exact stalled _ _

theorem endedAnswer_state (s : State) (n : Node) : (endedAnswer s n).state = s := by
  unfold endedAnswer
  split <;> rfl

theorem ownFeedOpen_acts (s : State) (n : Node) (tag : Nat) : Acts s (ownFeedOpen n tag s).state := by
  unfold ownFeedOpen
  split
  · exact .refl s
  split
  · exact .refl s
  rename_i free
  split
  · exact .refl s
  rename_i slot
  split
  · exact .refl s
  · exact askFeed_acts tag .feedOpen _ _ (by simpa using slot) (by simpa using free)

/-- The feed that a request finds running stands on its bay in FEEDING. -/
theorem runningFeed_eq_some {s : State} {n : Node} {b : BayIx} {f : Feed} (h : s.runningFeed n = some (b, f)) :
    s.feed b = some f ∧ f.state = .feeding := by
  unfold State.runningFeed at h
  split at h
  · rename_i c g owned
    split at h
    · rename_i feeding
      obtain ⟨rfl, rfl⟩ := Prod.mk.inj (Option.some.inj h)
      unfold State.ownedFeed at owned
      split at owned
      · exact absurd owned nofun
      · rename_i d _
        obtain ⟨f, held, same⟩ := Option.map_eq_some_iff.mp owned
        obtain ⟨rfl, rfl⟩ := Prod.mk.inj same
        exact ⟨held, feeding⟩
    · exact absurd h nofun
  · exact absurd h nofun

/-- A flow estimate goes into the feed record, and in estimate mode into the book (R60, R69). -/
theorem storeEstimate_acts {s : State} {b : BayIx} {f f' : Feed} (held : s.feed b = some f) (owner : f'.owner = f.owner)
    (cls : f'.cls = f.cls) (state : f'.state = f.state) (booked : f'.booked = f.booked) (phased : f.phased → f'.phased) :
    Acts s (s.storeEstimate b f') := by
  have stored := (Acts.refl s).act (.feed b f f' held owner cls state booked phased)
  unfold State.storeEstimate
  dsimp only
  split
  · exact stored.act (.figures b _ rfl rfl fun ok => ⟨ok.1, min_le_left _ _⟩)
  · exact stored

theorem ownFeedProgress_acts (s : State) (n : Node) (flow : Nat) : Acts s (ownFeedProgress n flow s).state := by
  unfold ownFeedProgress
  split
  · rw [endedAnswer_state]
    exact .refl s
  rename_i b f running
  obtain ⟨held, feeding⟩ := runningFeed_eq_some running
  have renewed (phased : f.phased) : Feed.phased
      { f with estimate := 10 * flow, holdDeadline := some (s.now + 1000 * s.params.holdTime) } := by
    obtain ⟨-, -, unended, unbooked⟩ | ⟨closing, -⟩ := phased
    · exact .inl ⟨feeding, nofun, unended, unbooked⟩
    · simp [feeding] at closing
  have stored := storeEstimate_acts (f' := { f with
    estimate := 10 * flow, holdDeadline := some (s.now + 1000 * s.params.holdTime) }) held rfl rfl rfl rfl renewed
  dsimp only
  split
  · rw [endedAnswer_state]
    exact stored.act (.endFeed b .full)
  · exact stored

theorem ownFeedClose_acts (s : State) (n : Node) (tag flow : Nat) : Acts s (ownFeedClose n tag flow s).state := by
  unfold ownFeedClose
  split
  · split
    · exact .refl s
    · rw [endedAnswer_state]
      exact .refl s
  rename_i b f running
  obtain ⟨held, -⟩ := runningFeed_eq_some running
  have closed := (storeEstimate_acts (f' := { f with estimate := 10 * flow }) held rfl rfl rfl rfl id).act
    (.endFeed b .closed)
  dsimp only
  split
  · exact closed
  split
  · exact closed.setSlot n nofun
  · exact .refl s

theorem ownFeedCancel_acts (s : State) (n : Node) : Acts s (ownFeedCancel n s).state := by
  unfold ownFeedCancel
  split
  · exact .refl s
  · exact (Acts.refl s).act (.leave _ .withdrawn)

/-! ### Requests about units (Chapter 1) -/

theorem ownAnnounce_acts (s : State) (unit category refr charge foam : Nat) :
    Acts s (ownAnnounce unit category refr charge foam s).state := by
  unfold ownAnnounce
  split
  · exact .refl s
  split
  · exact .refl s
  split
  · exact .refl s
  split
  · exact (Acts.refl s).alarm _ _ _
  · exact (Acts.refl s).setUnits _

theorem ownDegasBegin_acts (s : State) (n : Node) (unit cls : Nat) : Acts s (ownDegasBegin n unit cls s).state := by
  unfold ownDegasBegin
  split
  · exact .refl s
  split
  · exact .refl s
  split
  · exact .refl s
  split
  · exact .refl s
  have bound (v : UnitRec → UnitRec) : Acts s (s.modUnit unit v) := (Acts.refl s).setUnits _
  dsimp only
  split
  · split
    · exact (bound _).alarm _ _ _
    · exact bound _
  · exact bound _

theorem endComplete_acts (s : State) (u : UnitRec) : Acts s (endComplete s u).state := by
  have ended (v : UnitRec → UnitRec) : Acts s (s.modUnit u.tag v) := (Acts.refl s).setUnits _
  unfold endComplete
  dsimp only
  split
  · exact (ended _).alarm _ _ _
  · exact ended _

theorem ownDegasEnd_acts (s : State) (n : Node) (outcome : Nat) : Acts s (ownDegasEnd n outcome s).state := by
  unfold ownDegasEnd
  split
  · exact .refl s
  split
  · exact .refl s
  split
  · exact .refl s
  split
  · exact endComplete_acts s _
  split
  · split
    · exact (Acts.refl s).setUnits _
    · exact endComplete_acts s _
  · exact (Acts.refl s).setUnits _

theorem ownUnitRelease_acts (s : State) (unit : Nat) : Acts s (ownUnitRelease unit s).state := by
  unfold ownUnitRelease
  split
  · exact .refl s
  split
  · exact .refl s
  split
  · exact (Acts.refl s).setUnits _
  · exact .refl s

/-! ### Requests about vessels (Chapter 2) -/

theorem idle_of_outOfService {r : Bay} (h : r.outOfService = true) : r.state.idle := by
  simp only [Bay.outOfService, Bool.or_eq_true, beq_iff_eq] at h
  obtain h | h := h <;> simp [BayState.idle, h]

theorem idle_of_not_calibrationBusy {r : Bay} (h : ¬r.calibrationBusy = true) : r.state.idle := by
  simp only [Bay.calibrationBusy, Bool.or_eq_true, beq_iff_eq, not_or] at h
  obtain ⟨⟨⟨-, feeding⟩, closing⟩, -⟩ := h
  exact ⟨feeding, closing⟩

theorem ownVesselMount_acts (s : State) (bay vid cls capacity tare : Nat) :
    Acts s (ownVesselMount bay vid cls capacity tare s).state := by
  unfold ownVesselMount
  split
  · split
    · exact .refl s
    split
    · exact .refl s
    rename_i b g _ _ _ free
    split
    · exact .refl s
    split
    · exact .refl s
    have idle := idle_of_outOfService (by simpa using free)
    have mounted (v : Vessel) : Acts s ((s.setBay b ((s.bay b).mounted v)).setFeed b none) :=
      ((Acts.refl s).act (.restate b ((s.bay b).mounted v) idle idle (.inr rfl) fun _ =>
        ⟨Nat.zero_le _, Nat.zero_le _⟩)).act (.unfeed b (by rw [State.setBay_bay]; exact idle))
    exact ((mounted _).setStoreOp _).act (.service b (by
      rw [State.setStoreOp_bay, State.setFeed_bay, State.setBay_bay]; exact idle))
  · exact .refl s

theorem ownVesselRetire_acts (s : State) (bay : Nat) : Acts s (ownVesselRetire bay s).state := by
  unfold ownVesselRetire
  split
  · exact .refl s
  rename_i b _
  split
  case h_7 feeding closing _ _ =>
    split
    · exact .refl s
    · exact ((Acts.refl s).act (.restate b { s.bay b with state := .sealed } ⟨feeding, closing⟩ ⟨nofun, nofun⟩
        (.inl rfl) id)).setStoreOp _
  all_goals exact .refl s

theorem ownCalibrate_acts (s : State) (bay zeroAt scale : Nat) : Acts s (ownCalibrate bay zeroAt scale s).state := by
  unfold ownCalibrate
  split
  · exact .refl s
  rename_i b _
  split
  · exact .refl s
  split
  · exact .refl s
  rename_i free
  split
  · exact .refl s
  have idle := idle_of_not_calibrationBusy free
  have written := ((Acts.refl s).act (.figures b { s.bay b with zero := zeroAt, scale := scale } rfl rfl id)).setStoreOp
    (.writing b ((s.bay b).calibrationRecord zeroAt scale) (s.now + 30))
  dsimp only
  split
  · exact written
  · exact written.act (.service b (by simpa using idle))

theorem ownZeroCapture_acts (s : State) (bay scale : Nat) : Acts s (ownZeroCapture bay scale s).state := by
  unfold ownZeroCapture
  split
  · exact .refl s
  rename_i b _
  split
  · exact .refl s
  split
  · exact .refl s
  split
  · exact .refl s
  rename_i opened
  split
  · exact .refl s
  have ok : (s.channel b).state = .ok := by
    by_contra h
    exact opened (.inr h)
  refine ((Acts.refl s).setStoreOp _).act (.channel b _ (by simp) fun range => ?_)
  obtain ⟨run, gross, state, -, -⟩ := range
  exact ⟨run, gross, state, fun _ => ok, by simp [Window.inRange]⟩

theorem ownClearFault_acts (s : State) (bay : Nat) : Acts s (ownClearFault bay s).state := by
  unfold ownClearFault
  split
  · exact .refl s
  rename_i b _
  split
  · exact .refl s
  rename_i faulty
  have fault : (s.bay b).state = .fault := by
    by_contra h
    exact faulty (.inl h)
  exact (Acts.refl s).act (.service b (by simp [BayState.idle, fault]))

/-! ### Requests about settings, nodes and the permit (Chapters 8 and 10, R43) -/

/-- A parameter set within its range keeps the parameters in range (R178). -/
theorem setId_inRange {p : Params} {id lo hi v : Nat} (range : paramRange id = some (lo, hi)) (low : lo ≤ v)
    (high : v ≤ hi) (ok : p.inRange) : (p.setId id v).inRange := by
  unfold paramRange at range
  split at range <;> simp only [Option.some.injEq, Prod.mk.injEq, reduceCtorEq] at range <;>
    simp only [Params.setId, Params.inRange] at ok ⊢ <;> omega

/-- The states of the bays that a grant reaches (R67). -/
theorem grant_bay (s : State) (b : BayIx) (n : Node) (w : WaitPurpose) (g : GasClass) (c : BayIx) :
    (s.grant b n w g).bay c = if c = b then { s.bay b with state := .feeding } else s.bay c := by
  have bays : (s.grant b n w g).bay c = (s.setBay b { s.bay b with state := .feeding }).bay c := by
    rw [grant_spec]
    cases w <;> rfl
  rw [bays]
  split
  · next e => rw [e, State.setBay_bay]
  · next e => rw [State.setBay_bay_ne _ _ _ _ e]

theorem scan_unclosed {s : State} (b : BayIx) {c : BayIx} (h : (s.bay c).state ≠ .closing) :
    ((s.scan b).bay c).state ≠ .closing := by
  obtain ⟨-, e⟩ | ⟨x, -, e⟩ := scan_cases s b <;> rw [e]
  · exact h
  · have bays : ((((s.dropEntry x.node).grant b x.node x.purpose x.cls).answerEntry x .ok (s.grantBody b)).bay c)
        = ((s.dropEntry x.node).grant b x.node x.purpose x.cls).bay c := rfl
    rw [bays, grant_bay]
    split
    · exact nofun
    · exact h

/-- Scans one after another, of bays that no scan can bring to CLOSING (R43). -/
theorem scans_acts (bs : List BayIx) {s : State} (h : ∀ b ∈ bs, (s.bay b).state ≠ .closing) :
    Acts s (bs.foldl State.scan s) := by
  induction bs generalizing s with
  | nil => exact .refl s
  | cons b rest ih =>
    refine ((Acts.refl s).act (.scan b (h b List.mem_cons_self))).trans (ih fun c hc => ?_)
    exact scan_unclosed b (h c (List.mem_cons_of_mem b hc))

/-- A re-evaluation moves a bay between READY and FULL, and no other (R43). -/
theorem reviewBay_acts (s : State) (b : BayIx) : Acts s (s.reviewBay b) := by
  unfold State.reviewBay
  split
  · rename_i ready
    split
    · exact .refl s
    · exact ((Acts.refl s).act (.restate b { s.bay b with state := .full } (by simp [BayState.idle, ready])
        ⟨nofun, nofun⟩ (.inl rfl) id)).alarm _ _ _
  · rename_i full
    split
    · exact (Acts.refl s).act (.restate b { s.bay b with state := .ready } (by simp [BayState.idle, full])
        ⟨nofun, nofun⟩ (.inl rfl) id)
    · exact .refl s
  · exact .refl s

theorem setBay_state_unclosed {s : State} {b c : BayIx} {r : Bay} (after : r.state ≠ .closing)
    (h : (s.bay c).state ≠ .closing) : ((s.setBay b r).bay c).state ≠ .closing := by
  by_cases e : c = b
  · rwa [e, State.setBay_bay]
  · rwa [State.setBay_bay_ne _ _ _ _ e]

theorem reviewBay_unclosed {s : State} (b : BayIx) {c : BayIx} (h : (s.bay c).state ≠ .closing) :
    ((s.reviewBay b).bay c).state ≠ .closing := by
  unfold State.reviewBay
  split
  · split
    · exact h
    · exact setBay_state_unclosed (s := s) nofun h
  · split
    · exact setBay_state_unclosed (s := s) nofun h
    · exact h
  · exact h

theorem reviewBays_unclosed (bs : List BayIx) {s : State} {c : BayIx} (h : (s.bay c).state ≠ .closing) :
    ((bs.foldl State.reviewBay s).bay c).state ≠ .closing := by
  induction bs generalizing s with
  | nil => exact h
  | cons b rest ih => exact ih (reviewBay_unclosed b h)

theorem reviewReserve_acts (s : State) : Acts s s.reviewReserve := by
  refine (Acts.foldl reviewBay_acts allBays s).trans (scans_acts _ fun b rises => ?_)
  obtain ⟨-, full⟩ := List.mem_filter.mp rises
  simp only [Bool.and_eq_true, beq_iff_eq] at full
  obtain ⟨⟨full, -⟩, -⟩ := full
  exact reviewBays_unclosed allBays (by simp [full])

theorem ownSetParam_acts (s : State) (id value : Nat) : Acts s (ownSetParam id value s).state := by
  unfold ownSetParam
  split
  · exact .refl s
  rename_i lo hi range
  have ordered : lo ≤ hi := by
    unfold paramRange at range
    split at range <;> simp only [Option.some.injEq, Prod.mk.injEq, reduceCtorEq] at range <;> omega
  have set : Acts s { s with params := s.params.setId id (clamp lo hi value) } := by
    refine (Acts.refl s).act (.aside <| .records ⟨rfl, rfl, rfl, rfl, rfl, rfl, rfl, rfl, rfl⟩ fun ok => ?_)
    obtain ⟨nodes, alarms, params, rest⟩ := ok
    exact ⟨nodes, alarms, setId_inRange range (le_max_left _ _) (max_le ordered (min_le_left _ _)) params, rest⟩
  unfold appliedAnswer State.applyParam
  dsimp only
  split
  · exact set.trans (reviewReserve_acts _)
  · exact set

theorem ownSetExpect_acts (s : State) (category cls grams : Nat) : Acts s (ownSetExpect category cls grams s).state := by
  unfold ownSetExpect
  split
  · refine (Acts.refl s).act (.aside <| .records ⟨rfl, rfl, rfl, rfl, rfl, rfl, rfl, rfl, rfl⟩ fun ok => ?_)
    obtain ⟨nodes, alarms, params, expect, lines⟩ := ok
    refine ⟨nodes, alarms, params, fun k => ?_, lines⟩
    have kept := expect k
    simp only [appliedAnswer, clamp, Fin.getElem_fin, Vector.getElem_set] at kept ⊢
    split <;> omega
  · exact .refl s

theorem ownReplyLimit_acts (s : State) (n : Node) (bytes : Nat) : Acts s (ownReplyLimit n bytes s).state := by
  refine (Acts.refl s).node n { s.node n with replyLimit := clamp 48 512 bytes } id fun ok => ?_
  obtain ⟨errors, -, -, digest⟩ := ok
  exact ⟨errors, le_max_left _ _, max_le (by decide) (min_le_left _ _), digest⟩

theorem ownLinkOptions_acts (s : State) (n : Node) (options : Nat) : Acts s (ownLinkOptions n options s).state :=
  (Acts.refl s).node n { s.node n with burstHalt := options.testBit 0, fixedLength := options.testBit 1 } id id

theorem ownLinkStats_acts (s : State) (n : Node) (addr : Nat) : Acts s (ownLinkStats n addr s).state := by
  unfold ownLinkStats
  split
  · exact .refl s
  rename_i m _
  split
  · exact .refl s
  · exact (Acts.refl s).node m { s.node m with errCount := 0, saturated := false } id
      fun ok => ⟨Nat.zero_le _, ok.2⟩

theorem ownSetDigest_acts (s : State) (n : Node) (items : List (Nat × Nat)) :
    Acts s (ownSetDigest n items s).state := by
  unfold ownSetDigest
  split
  · rename_i good
    refine (Acts.refl s).node n { s.node n with digest := items, cursor := 0 } id fun ok => ?_
    obtain ⟨errors, low, high, -⟩ := ok
    exact ⟨errors, low, high, good, fun _ => rfl, List.length_pos_of_ne_nil⟩
  · exact .refl s

theorem ownAlarmRead_acts (s : State) (group : Nat) : Acts s (ownAlarmRead group s).state := by
  unfold ownAlarmRead
  split
  · refine (Acts.refl s).act (.aside <| .records ⟨rfl, rfl, rfl, rfl, rfl, rfl, rfl, rfl, rfl⟩ fun ok => ?_)
    obtain ⟨nodes, alarms, rest⟩ := ok
    refine ⟨nodes, ?_, rest⟩
    dsimp only [AlarmSet.clearGroup]
    refine List.foldlRecOn (motive := fun r : Vector Alarm 21 => ∀ k : Fin 21, (r[k]).count ≤ 255) _ _ alarms ?_
    intro r kept x _ k
    have kept := kept k
    simp only [Fin.getElem_fin, Vector.getElem_set] at kept ⊢
    split
    · exact Nat.zero_le _
    · exact kept
  · exact .refl s

theorem ownPermit_acts (s : State) (value : Nat) : Acts s (ownPermit value s).state := by
  unfold ownPermit
  split
  · exact .refl s
  · exact (Acts.refl s).act (.interlock _ rfl)

/-! ### Taking a request -/

/-- A request is the acts of its owner's part and the answer (R167). -/
theorem take_acts {act : State → Taken} {s : State} (h : Acts s (act s).state) (n : Node) (tag : Nat) (k : ReqKind) :
    Acts s (take n tag k act s) := by
  unfold take
  dsimp only
  split
  · exact h.replied _ _ _ _ _
  · exact (Acts.refl s).replied _ _ _ _ _

theorem takeRequest_acts (i : Instr) (s : State) : Acts s (takeRequest i s) := by
  have stands {t : Taken} (h : t.state = s) : Acts s t.state := by rw [h]; exact .refl s
  cases i with
  | replyLimit n t bytes => exact take_acts (ownReplyLimit_acts s n bytes) n t _
  | linkStats n t addr => exact take_acts (ownLinkStats_acts s n addr) n t _
  | feedOpen n t => exact take_acts (ownFeedOpen_acts s n t) n t _
  | feedProgress n t flow => exact take_acts (ownFeedProgress_acts s n flow) n t _
  | feedClose n t flow => exact take_acts (ownFeedClose_acts s n t flow) n t _
  | feedCancel n t => exact take_acts (ownFeedCancel_acts s n) n t _
  | feedOutcome n t => exact take_acts (stands (ownFeedOutcome_state s n)) n t _
  | degasEnd n t outcome => exact take_acts (ownDegasEnd_acts s n outcome) n t _
  | foamOpen n t cls => exact take_acts (ownFoamOpen_acts s n t cls) n t _
  | foamResume n t => exact take_acts (ownFoamResume_acts s n t) n t _
  | foamClose n t => exact take_acts (ownFoamClose_acts s n t) n t _
  | batchQuery n t line slot => exact take_acts (stands (ownBatchQuery_state s line slot)) n t _
  | vesselQuery n t bay => exact take_acts (stands (ownVesselQuery_state s bay)) n t _
  | alarmRead n t group => exact take_acts (ownAlarmRead_acts s group) n t _
  | permit n t value => exact take_acts (ownPermit_acts s value) n t _
  | vesselRetire n t bay => exact take_acts (ownVesselRetire_acts s bay) n t _
  | vesselClearFault n t bay => exact take_acts (ownClearFault_acts s bay) n t _
  | linkOptions n t options => exact take_acts (ownLinkOptions_acts s n options) n t _
  | announce n t unit category refr charge foam =>
    exact take_acts (ownAnnounce_acts s unit category refr charge foam) n t _
  | degasBegin n t unit cls => exact take_acts (ownDegasBegin_acts s n unit cls) n t _
  | cabinetAdmit n t unit cls => exact take_acts (ownCabinetAdmit_acts s n unit cls) n t _
  | unitQuery n t unit => exact take_acts (stands (ownUnitQuery_state s unit)) n t _
  | unitRelease n t unit => exact take_acts (ownUnitRelease_acts s unit) n t _
  | vesselMount n t bay vid cls capacity tare =>
    exact take_acts (ownVesselMount_acts s bay vid cls capacity tare) n t _
  | calibrate n t bay zeroAt scale => exact take_acts (ownCalibrate_acts s bay zeroAt scale) n t _
  | calibrateZeroCapture n t bay scale => exact take_acts (ownZeroCapture_acts s bay scale) n t _
  | setParam n t id value => exact take_acts (ownSetParam_acts s id value) n t _
  | setExpect n t category cls grams => exact take_acts (ownSetExpect_acts s category cls grams) n t _
  | setDigest n t items => exact take_acts (ownSetDigest_acts s n items) n t _
  | _ => exact .refl s

theorem takeFrame_acts (n : Node) (f : ReqFrame) (s : State) : Acts s (takeFrame n f s) := by
  unfold takeFrame
  split
  · exact takeRequest_acts _ s
  · exact take_acts (.refl s) n f.tag f.kind

theorem takeAll_acts (n : Node) (fs : List ReqFrame) (s : State) : Acts s (takeAll n fs s).1 := by
  induction fs generalizing s with
  | nil => exact .refl s
  | cons f rest ih => exact (takeFrame_acts n f s).trans (ih _)

/-! ### Samples, deadlines and inputs (Chapters 2 to 5 and 8) -/

theorem Acts.dropCapture {s t : State} (h : Acts s t) (b : BayIx) : Acts s (t.dropCapture b) := by
  unfold State.dropCapture
  split
  · split
    · exact h.setStoreOp .idle
    · exact h
  · exact h

theorem dropCapture_channel (s : State) (b c : BayIx) : (s.dropCapture b).channel c = s.channel c := by
  unfold State.dropCapture
  split
  · split <;> rfl
  · rfl

/-- The loss of a channel without a window is handed on by the state of its bay (R27, R48, R60, R81). -/
theorem handLoss_acts {s : State} {b : BayIx} (window : (s.channel b).window = none) : Acts s (s.handLoss b) := by
  unfold State.handLoss
  split
  · next settling =>
    exact (Acts.refl s).act (.restate b { s.bay b with state := .hold } (by simp [BayState.idle, settling])
      ⟨nofun, nofun⟩ (.inl rfl) id)
  · next ready =>
    exact (Acts.refl s).act (.restate b { s.bay b with state := .hold } (by simp [BayState.idle, ready])
      ⟨nofun, nofun⟩ (.inl rfl) id)
  · split
    · exact .refl s
    · next f held =>
      exact ((Acts.refl s).act (.feed b f { f with weightKept := false } held rfl rfl rfl rfl id)).act
        (.figures b { s.bay b with book := f.bookFigure } rfl rfl fun ok => ⟨ok.1, min_le_left _ _⟩)
  · next closing => exact ((Acts.refl s).act (.bookLoss b closing window)).act (.leaveClosing b)
  · exact .refl s

theorem loseChannel_acts (s : State) (b : BayIx) : Acts s (s.loseChannel b) := by
  have lost : Acts s (s.setChannel b (s.channel b).lose) := by
    refine (Acts.refl s).act (.channel b _ (by simp [Channel.lose]) fun ok => ?_)
    obtain ⟨-, gross, -⟩ := ok
    simp [Channel.inRange, Channel.lose, gross]
  refine ((lost.alarm .channelLost (some b.val) 0).dropCapture b).trans (handLoss_acts ?_)
  rw [dropCapture_channel, State.alarm_channel, State.setChannel_channel]
  rfl

/-- What a channel that has come back to OK brings to its bay (R27, R49, R60). -/
theorem returnBay_acts {s : State} (b : BayIx) (c : Channel) (h : Acts s (s.setChannel b { c with state := .ok })) :
    Acts s ((s.setChannel b c).returnChannel b) := by
  unfold State.returnChannel
  simp only [State.setChannel_channel, State.setChannel_setChannel, State.setChannel_bay]
  split
  · next hold => exact h.act (.service b (by simp [BayState.idle, hold]))
  · split
    · exact h
    · next f held =>
      exact (h.act (.feed b f { f with weightKept := true } held rfl rfl rfl rfl id)).act
        (.figures b { s.bay b with book := (s.bay b).net } rfl rfl fun ok => ⟨ok.1, ok.1⟩)
  · exact h

theorem finishCapture_acts (s : State) (b : BayIx) (codes : List Nat) : Acts s (s.finishCapture b codes) := by
  unfold State.finishCapture
  split
  · split
    · next c scale _ _ =>
      exact ((Acts.refl s).act (.figures b { s.bay b with zero := mean8 codes, scale := scale } rfl rfl id)).setStoreOp _
    · exact .refl s
  · exact .refl s

/-- Eight values within a range have their mean there. -/
theorem mean8_le {xs : List Nat} {m : Nat} (eight : xs.length = 8) (h : ∀ x ∈ xs, x ≤ m) : mean8 xs ≤ m := by
  have sum := List.sum_le_card_nsmul xs m h
  rw [eight, smul_eq_mul] at sum
  unfold mean8 divRound
  omega

theorem judgeSet_acts {s : State} {b : BayIx} {w : Window} {xs : List Nat} (window : (s.channel b).window = some w)
    (range : (s.channel b).inRange → w.purpose ≠ .zeroCapture → mean8 xs ≤ 1000000) : Acts s (s.judgeSet b w xs) := by
  by_cases steady : spread xs ≤ w.band.getD 0
  · rw [judgeSet_reading (unstable := false) (fun _ => steady) nofun]
    exact (Acts.refl s).act (.reading b w _ false window range)
  by_cases last : 4 ≤ w.setNo
  · rw [judgeSet_reading (unstable := true) nofun fun _ => ⟨steady, last⟩]
    exact (Acts.refl s).act (.reading b w _ true window range)
  unfold State.judgeSet
  simp only [if_neg steady, if_pos (Nat.lt_of_not_le last)]
  refine (Acts.refl s).act (.channel b _ (fun w' new feedEnd => ⟨w, window, ?_⟩) fun ok => ?_)
  · obtain rfl := Option.mem_some_iff.mp new
    exact feedEnd
  · obtain ⟨run, gross, state, opened, range⟩ := ok
    obtain ⟨low, -⟩ := range w window
    refine ⟨run, gross, state, fun _ => opened (by simp [window]), fun w' new => ?_⟩
    obtain rfl := Option.mem_some_iff.mp new
    exact ⟨by simp, by simp; omega, by simp, by simp⟩

/-- A valid sample reaches the window of its channel (R54, R55, R57). -/
theorem collect_acts {s : State} {b : BayIx} {raw gross : Nat} (range : gross ≤ 1000000) :
    Acts s (s.collect b raw gross) := by
  unfold State.collect
  split
  · exact .refl s
  rename_i w window
  split
  · exact .refl s
  have sampled (ok : (s.channel b).inRange) :
      ∀ x ∈ w.samples ++ [if w.purpose = .zeroCapture then raw else gross], w.purpose ≠ .zeroCapture → x ≤ 1000000 := by
    obtain ⟨-, -, -, -, ok⟩ := ok
    obtain ⟨-, -, -, samples⟩ := ok w window
    intro x hx weighs
    obtain hx | hx := List.mem_append.mp hx
    · exact samples x hx weighs
    · rw [List.mem_singleton.mp hx, if_neg weighs]
      exact range
  have grown : (w.samples ++ [if w.purpose = .zeroCapture then raw else gross]).length = w.samples.length + 1 := by simp
  dsimp only
  generalize w.samples ++ [if w.purpose = .zeroCapture then raw else gross] = taken at sampled grown ⊢
  split
  · next few =>
    refine (Acts.refl s).act (.channel b _ (fun w' new feedEnd => ⟨w, window, ?_⟩) fun ok => ?_)
    · obtain rfl := Option.mem_some_iff.mp new
      exact feedEnd
    · have samples := sampled ok
      obtain ⟨run, last, state, opened, ok⟩ := ok
      obtain ⟨low, high, -⟩ := ok w window
      refine ⟨run, last, state, fun _ => opened (by simp [window]), fun w' new => ?_⟩
      obtain rfl := Option.mem_some_iff.mp new
      exact ⟨low, high, few, samples⟩
  next many =>
  split
  · refine ((Acts.refl s).act (.channel b { s.channel b with window := none } (by simp) fun ok => ?_)).trans
      (finishCapture_acts _ b _)
    obtain ⟨run, last, state, -⟩ := ok
    exact ⟨run, last, state, by simp, by simp⟩
  · refine judgeSet_acts window fun ok weighs => mean8_le ?_ fun x hx => sampled ok x hx weighs
    obtain ⟨-, -, -, -, ok⟩ := ok
    obtain ⟨-, -, few, -⟩ := ok w window
    omega

theorem Acts.watchOverfill {s t : State} (h : Acts s t) (b : BayIx) : Acts s (t.watchOverfill b) := by
  unfold State.watchOverfill
  split
  · exact h.act (.endFeed b .full)
  · exact h

theorem invalidSample_acts (s : State) (b : BayIx) : Acts s (s.invalidSample b) := by
  unfold State.invalidSample
  split
  · exact loseChannel_acts s b
  · next silent =>
    refine (Acts.refl s).act (.channel b _ (fun w new feedEnd => ⟨w, new, feedEnd⟩) fun ok => ?_)
    obtain ⟨-, gross, -, opened, window⟩ := ok
    exact ⟨by simp, gross, by simp [silent], opened, window⟩

theorem grossOf_le (raw zeroAt scale : Nat) : (grossOf raw zeroAt scale).1 ≤ 1000000 := by
  unfold grossOf
  split
  · exact min_le_left _ _
  · exact Nat.zero_le _

/-- A sample that counts toward the run, and brings the channel to OK where it is the tenth (R45, R49). -/
theorem heard_inRange {c : Channel} {st : ChannelState} (now gross : Nat) (under : Bool) (range : gross ≤ 1000000)
    (h : st = c.state ∧ (c.state = .ok ∨ c.validRun < 9) ∨ st = .ok ∧ 9 ≤ c.validRun) (ok : c.inRange) :
    ({ c.heard now gross under with state := st }).inRange := by
  obtain ⟨run, -, state, opened, window⟩ := ok
  obtain ⟨rfl, settled⟩ | ⟨rfl, ninth⟩ := h
  · refine ⟨min_le_left _ _, range, ?_, opened, window⟩
    simp only [Channel.heard, state]
    rw [state] at settled
    omega
  · refine ⟨min_le_left _ _, range, ?_, fun _ => rfl, window⟩
    simp only [Channel.heard, true_iff]
    omega

theorem validSample_acts (s : State) (b : BayIx) (raw : Nat) : Acts s (s.validSample b raw) := by
  have range := grossOf_le raw (s.bay b).zero (s.bay b).scale
  have heard (st : ChannelState) (h : st = (s.channel b).state ∧
      ((s.channel b).state = .ok ∨ (s.channel b).validRun < 9) ∨ st = .ok ∧ 9 ≤ (s.channel b).validRun) :=
    (Acts.refl s).act (.channel b { (s.channel b).heard s.now (grossOf raw (s.bay b).zero (s.bay b).scale).1
      (grossOf raw (s.bay b).zero (s.bay b).scale).2 with state := st } (fun w new feedEnd => ⟨w, new, feedEnd⟩)
      (heard_inRange _ _ _ range h))
  unfold State.validSample
  dsimp only
  split
  · next ok => exact ((heard _ (.inl ⟨rfl, .inl ok⟩)).watchOverfill b).trans (collect_acts range)
  split
  · next ninth => exact (returnBay_acts b _ (heard _ (.inr ⟨rfl, ninth⟩))).watchOverfill b
  · next early => exact heard _ (.inl ⟨rfl, .inr (Nat.lt_of_not_le early)⟩)

theorem takeSample_acts (b : BayIx) (x : SampleIn) (s : State) : Acts s (takeSample b x s) := by
  unfold takeSample
  split
  · split
    · exact validSample_acts s b _
    · exact invalidSample_acts s b
  · exact invalidSample_acts s b

theorem passSilence_acts (b : BayIx) (arrival : Nat) (s : State) : Acts s (passSilence b arrival s) := by
  have advanced := (Acts.refl s).advance arrival
  unfold passSilence
  dsimp only
  split
  · exact advanced.trans (invalidSample_acts _ b)
  · exact advanced

theorem passSettle_acts (b : BayIx) (arrival : Nat) (s : State) : Acts s (passSettle b arrival s) := by
  have advanced := (Acts.refl s).advance arrival
  unfold passSettle
  dsimp only
  split
  · exact advanced
  next w window =>
  split
  · refine advanced.act (.channel b _ (fun w' new feedEnd => ⟨w, window, ?_⟩) fun ok => ?_)
    · obtain rfl := Option.mem_some_iff.mp new
      exact feedEnd
    · obtain ⟨run, gross, state, opened, -⟩ := ok
      refine ⟨run, gross, state, fun _ => opened (by rw [window]; exact nofun), fun w' new => ?_⟩
      obtain rfl := Option.mem_some_iff.mp new
      simp [Window.inRange]
  · exact advanced

theorem passHold_acts (b : BayIx) (arrival : Nat) (s : State) : Acts s (passHold b arrival s) := by
  have advanced := (Acts.refl s).advance arrival
  unfold passHold
  dsimp only
  split
  · exact advanced
  split
  · exact advanced.act (.endFeed b .abandoned)
  · exact advanced

theorem passWait_acts (n : Node) (arrival : Nat) (s : State) : Acts s (passWait n arrival s) := by
  have advanced := (Acts.refl s).advance arrival
  unfold passWait
  dsimp only
  split
  · exact advanced
  split
  · exact (advanced.act (.leave _ .waitExpired)).alarm _ _ _
  · exact advanced

theorem switchCloses_acts (b : BayIx) (s : State) : Acts s (switchCloses b s) := by
  have read := (Acts.refl s).setSwitch b true
  unfold switchCloses
  dsimp only
  split
  · next running => exact read.act (.confirm b running.1 running.2)
  · exact read

theorem passCloseWatch_acts (b : BayIx) (arrival : Nat) (s : State) : Acts s (passCloseWatch b arrival s) := by
  have advanced := (Acts.refl s).advance arrival
  unfold passCloseWatch
  dsimp only
  split
  · next passed =>
    refine advanced.act (.expire b fun absent => ?_)
    rw [absent] at passed
    exact absurd passed nofun
  · exact advanced

end Sys2Proof.Machine
end

section
namespace Sys2Proof.Machine

/-! ## Registers in range through the acts (R22, R44, R133, R166, R176, R178) -/

/-- The Plant Line Interface changes in its delivery list alone (R153). -/
def PliDelivers (s t : State) : Prop := t.pli = { s.pli with delivery := t.pli.delivery }

theorem PliDelivers.trans {s t u : State} (h : PliDelivers s t) (k : PliDelivers t u) : PliDelivers s u := by
  unfold PliDelivers at *
  rw [k, h]

/-- From `s` to `t` settings, channels, nets and books stay in range, and of the line the delivery list alone changes. -/
structure KeepsRegisters (s t : State) : Prop where
  settings : SettingsOk s → SettingsOk t
  weighing : WeighOk s → WeighOk t
  line : PliDelivers s t

theorem KeepsRegisters.refl (s : State) : KeepsRegisters s s := ⟨id, id, rfl⟩

theorem KeepsRegisters.trans {s t u : State} (h : KeepsRegisters s t) (k : KeepsRegisters t u) : KeepsRegisters s u :=
  ⟨k.settings ∘ h.settings, k.weighing ∘ h.weighing, h.line.trans k.line⟩

theorem KeepsRegisters.foldl {α : Type} {f : State → α → State} (h : ∀ t x, KeepsRegisters t (f t x)) (xs : List α)
    (s : State) : KeepsRegisters s (xs.foldl f s) := by
  induction xs generalizing s with
  | nil => exact .refl s
  | cons x xs ih => exact (h s x).trans (ih (f s x))

/-! ### Records -/

theorem KeepsRegisters.setFeed {s t : State} (h : KeepsRegisters s t) (b : BayIx) (r : Option Feed) :
    KeepsRegisters s (t.setFeed b r) := h.trans ⟨id, id, rfl⟩

theorem KeepsRegisters.setValve {s t : State} (h : KeepsRegisters s t) (b : BayIx) (r : Bool) :
    KeepsRegisters s (t.setValve b r) := h.trans ⟨id, id, rfl⟩

theorem KeepsRegisters.setWaits {s t : State} (h : KeepsRegisters s t) (ws : List WaitEntry) :
    KeepsRegisters s (t.setWaits ws) := h.trans ⟨id, id, rfl⟩

theorem KeepsRegisters.setBay {s t : State} (h : KeepsRegisters s t) (b : BayIx) {r : Bay}
    (range : WeighOk s → (t.bay b).figuresOk → r.figuresOk) : KeepsRegisters s (t.setBay b r) := by
  refine ⟨h.settings, fun start c => ?_, h.line⟩
  obtain ⟨channel, figures⟩ := h.weighing start c
  refine ⟨channel, ?_⟩
  by_cases e : c = b
  · subst e
    rw [State.setBay_bay]
    exact range start figures
  · rwa [State.setBay_bay_ne _ _ _ _ e]

theorem KeepsRegisters.setChannel {s t : State} (h : KeepsRegisters s t) (b : BayIx) {r : Channel}
    (range : (t.channel b).inRange → r.inRange) : KeepsRegisters s (t.setChannel b r) := by
  refine h.trans ⟨id, fun ok c => ?_, rfl⟩
  obtain ⟨channel, figures⟩ := ok c
  refine ⟨?_, figures⟩
  by_cases e : c = b
  · subst e
    rw [State.setChannel_channel]
    exact range channel
  · rwa [State.setChannel_channel_ne _ _ _ _ e]

theorem settingsOk_setNode {s : State} {n : Node} {r : NodeRec} (range : (s.node n).inRange → r.inRange)
    (ok : SettingsOk s) : SettingsOk (s.setNode n r) := by
  obtain ⟨nodes, rest⟩ := ok
  refine ⟨fun m => ?_, rest⟩
  by_cases e : m = n
  · subst e
    rw [State.setNode_node]
    exact range (nodes m)
  · rw [State.setNode_node_ne _ _ _ _ e]
    exact nodes m

theorem Aside.keepsRegisters {s t : State} (a : Aside s t) : KeepsRegisters s t := by
  cases a with
  | records blocks settings =>
    refine ⟨settings, fun ok => ?_, by rw [PliDelivers, blocks.pli]⟩
    simpa only [WeighOk, State.channel, State.bay, blocks.channels, blocks.bays] using ok
  | node n r slot range => exact ⟨settingsOk_setNode range, id, rfl⟩
  | delivery ns => exact ⟨id, id, rfl⟩

theorem KeepsRegisters.asides {s t u : State} (h : KeepsRegisters s t) (k : Asides t u) : KeepsRegisters s u :=
  h.trans (k.relates (R := KeepsRegisters) (.refl t) fun _ _ h a => h.trans a.keepsRegisters)

theorem KeepsRegisters.alarm {s t : State} (h : KeepsRegisters s t) (k : AlarmKind) (x : Option Nat) (v : Int) :
    KeepsRegisters s (t.alarm k x v) := h.asides ((Asides.refl t).alarm k x v)

/-! ### Windows, bays and grants -/

/-- A window that opens on an OK channel is in range (R53). -/
theorem KeepsRegisters.openWindow {s t : State} (h : KeepsRegisters s t) {b : BayIx} (p : WindowPurpose)
    (ok : (t.channel b).state = .ok) : KeepsRegisters s (t.openWindow b p) := by
  refine h.setChannel b fun range => ?_
  obtain ⟨run, gross, state, -, -⟩ := range
  exact ⟨run, gross, state, fun _ => ok, by simp [Window.inRange]⟩

theorem KeepsRegisters.endWindow {s t : State} (h : KeepsRegisters s t) (b : BayIx) :
    KeepsRegisters s (t.setChannel b { t.channel b with window := none }) := by
  refine h.setChannel b fun range => ?_
  obtain ⟨run, gross, state, -, -⟩ := range
  exact ⟨run, gross, state, by simp, by simp⟩

theorem KeepsRegisters.enterService {s t : State} (h : KeepsRegisters s t) (b : BayIx) :
    KeepsRegisters s (t.enterService b) := by
  obtain ⟨ok, e⟩ | ⟨-, e⟩ := enterService_cases t b
  · rw [e]; exact (h.setBay b (r := { t.bay b with state := .settling }) fun _ => id).openWindow .baseline ok
  · rw [e]; exact h.setBay b (r := { t.bay b with state := .hold }) fun _ => id

/-- A grant is the feed, the bay and the valve, and then only the owner's outcome field and its batch (R67, R121). -/
theorem grant_asides (s : State) (b : BayIx) (n : Node) (w : WaitPurpose) (g : GasClass) :
    Asides (((s.setFeed b (some (s.newFeed b n (s.feedPurpose w) g))).setBay b { s.bay b with
      state := .feeding }).setValve b true) (s.grant b n w g) := by
  have told := (Asides.refl (((s.setFeed b (some (s.newFeed b n (s.feedPurpose w) g))).setBay b { s.bay b with
    state := .feeding }).setValve b true)).act (.node n { s.node n with
      outcome := some { bay := b, endCause := none, settled := false, gain := none, estimated := false } } id id)
  cases w with
  | unit tag => exact told
  | batch l number => exact told.modCurrent l (·.openSegment b)

theorem KeepsRegisters.grant {s t : State} (h : KeepsRegisters s t) (b : BayIx) (n : Node) (w : WaitPurpose)
    (g : GasClass) : KeepsRegisters s (t.grant b n w g) :=
  (((h.setFeed b _).setBay b (r := { t.bay b with state := .feeding }) fun _ => id).setValve b true).asides (grant_asides t b n w g)

theorem answerEntry_asides (s : State) (e : WaitEntry) (st : Status) (b : Body) : Asides s (s.answerEntry e st b) :=
  (Asides.refl s).deliver e.node _

theorem KeepsRegisters.scan {s t : State} (h : KeepsRegisters s t) (b : BayIx) : KeepsRegisters s (t.scan b) := by
  obtain ⟨-, e⟩ | ⟨x, -, e⟩ := scan_cases t b
  · rwa [e]
  · rw [e]
    exact ((h.setWaits (t.waits.filter (fun e => e.node != x.node))).grant b x.node x.purpose x.cls).asides
      (answerEntry_asides _ x .ok (t.grantBody b))

theorem KeepsRegisters.readyOrFull {s t : State} (h : KeepsRegisters s t) (b : BayIx) :
    KeepsRegisters s (t.readyOrFull b) := by
  obtain ⟨-, e⟩ | ⟨-, e⟩ := readyOrFull_cases t b
  · rw [e]; exact (h.setBay b (r := { t.bay b with state := .ready }) fun _ => id).scan b
  · rw [e]; exact (h.setBay b (r := { t.bay b with state := .full }) fun _ => id).alarm _ _ _

/-- An entry that leaves is answered, and its batch stalls (R92, R121). -/
theorem endEntry_asides (s : State) (e : WaitEntry) (st : Status) :
    Asides (s.dropEntry e.node) (s.endEntry e st) := by
  have answered := answerEntry_asides (s.dropEntry e.node) e st .none
  unfold State.endEntry State.stallWaiting
  split
  · exact answered
  · exact answered.modCurrent _ _

theorem KeepsRegisters.endEntry {s t : State} (h : KeepsRegisters s t) (e : WaitEntry) (st : Status) :
    KeepsRegisters s (t.endEntry e st) := (h.setWaits _).asides (endEntry_asides t e st)

theorem KeepsRegisters.purge {s t : State} (h : KeepsRegisters s t) (which : WaitEntry → Bool) (st : Status) :
    KeepsRegisters s (t.purge which st) := by
  refine h.trans (KeepsRegisters.foldl (fun t n => ?_) _ t)
  split
  · split
    · exact (KeepsRegisters.refl t).endEntry _ st
    · exact .refl t
  · exact .refl t

/-! ### Bookings -/

theorem bookTold_asides (s : State) (f : Feed) (g : GainResult) : Asides s (s.bookTold f g) :=
  (Asides.refl s).bookTold f g

theorem KeepsRegisters.bookGain {s t : State} (h : KeepsRegisters s t) (b : BayIx) (f : Feed) (g : GainResult) :
    KeepsRegisters s (t.bookGain b f g) := by
  rw [bookGain_eq_bookTold]
  exact (h.asides (bookTold_asides t f g)).setFeed b _

theorem KeepsRegisters.bookByEstimate {s t : State} (h : KeepsRegisters s t) (b : BayIx) :
    KeepsRegisters s (t.bookByEstimate b) := by
  obtain ⟨-, e⟩ | ⟨f, -, -, e⟩ := bookByEstimate_cases t b
  · rwa [e]
  · rw [e]
    exact (h.setBay b fun _ _ => ⟨min_le_left _ _, min_le_left _ _⟩).bookGain b _ _

theorem KeepsRegisters.leaveClosing {s t : State} (h : KeepsRegisters s t) (b : BayIx) :
    KeepsRegisters s (t.leaveClosing b) := by
  obtain e | ⟨-, -, -, e⟩ := leaveClosing_cases t b
  · rwa [e]
  · rw [e]; exact (h.setFeed b none).enterService b

theorem KeepsRegisters.takeSettledNet {s t : State} (h : KeepsRegisters s t) (b : BayIx) {net : Nat}
    (range : WeighOk s → net ≤ 1000000) : KeepsRegisters s (t.takeSettledNet b net) := by
  unfold State.takeSettledNet
  dsimp only
  split
  · exact (h.setBay b fun start _ => ⟨range start, range start⟩).alarm _ _ _
  · exact h.setBay b fun start _ => ⟨range start, range start⟩

/-- A reading within its range is delivered by its purpose (R59). -/
theorem KeepsRegisters.deliverReading {s t : State} (h : KeepsRegisters s t) (b : BayIx) (p : WindowPurpose)
    {gross : Nat} (unstable : Bool) (range : WeighOk s → p ≠ .zeroCapture → gross ≤ 1000000) :
    KeepsRegisters s (t.deliverReading b p gross unstable) := by
  have settled (weighs : p ≠ .zeroCapture) (start : WeighOk s) : (t.bay b).settledNet gross ≤ 1000000 :=
    (Nat.sub_le _ _).trans (range start weighs)
  cases p with
  | baseline =>
    unfold State.deliverReading State.deliverBaseline
    dsimp only
    split
    · exact (h.takeSettledNet b (settled nofun)).readyOrFull b
    · exact h
  | feedEnd =>
    unfold State.deliverReading State.deliverFeedEnd
    dsimp only
    split
    · exact h
    rename_i f _
    split
    · exact h
    have netted := h.takeSettledNet b (settled nofun)
    refine (((?_ : KeepsRegisters s _).bookGain b f _).setFeed b none).readyOrFull b
    split
    · exact netted.alarm _ _ _
    · exact netted
  | zeroCapture => exact h

/-! ### Ends of feeds -/

/-- The end of a feed closes its bay and tells owner, alarms and batch (R74). -/
theorem endTold_asides (s : State) (p : FeedPurpose) (n : Node) (c : EndCause) :
    Asides s (((s.modOutcome n (fun o => { o with endCause := some c, settled := false })).endAlarm n c).endOfSegment
      p c) := by
  have told := (Asides.refl s).act (.node n { s.node n with
    outcome := (s.node n).outcome.map (fun o => { o with endCause := some c, settled := false }) } id id)
  have alarmed : Asides s ((s.modOutcome n (fun o => { o with endCause := some c, settled := false })).endAlarm n c) := by
    cases c with
    | abandoned => exact told.alarm _ _ _
    | interlock => exact told.alarm _ _ _
    | _ => exact told
  cases p with
  | unit tag => exact alarmed
  | batch l number k => exact alarmed.modCurrent l _

/-- The state in which a feed has just ended: bay and feed CLOSING, the valve closed, and owner, alarms and batch told
(R74, steps 1 to 6). -/
def State.feedEnded (s : State) (b : BayIx) (f : Feed) (c : EndCause) : State :=
  (((((s.setFeed b (some (f.ended c))).closeBay b).modOutcome f.owner
    (fun o => { o with endCause := some c, settled := false })).endAlarm f.owner c).endOfSegment f.purpose c)

/-- A feed that ends closes; with the channel OK its FEED_END window opens where the switch has confirmed, and with the
channel out it is booked by its estimate (R28, R74, R81). -/
theorem endFeed_cases (s : State) (b : BayIx) (c : EndCause) :
    ((∀ f ∈ s.feed b, f.state ≠ .feeding) ∧ s.endFeed b c = s) ∨ ∃ f, s.feed b = some f ∧ f.state = .feeding ∧
      (((s.feedEnded b f c).channel b).state = .ok ∧ ((s.feedEnded b f c).bay b).closeWatch = none ∧
          s.endFeed b c = (s.feedEnded b f c).openWindow b .feedEnd ∨
        ((s.feedEnded b f c).channel b).state = .ok ∧ s.endFeed b c = s.feedEnded b f c ∨
        s.endFeed b c = ((s.feedEnded b f c).bookByEstimate b).leaveClosing b) := by
  cases held : s.feed b with
  | none => exact .inl ⟨nofun, by simp only [State.endFeed, held]⟩
  | some f =>
    by_cases feeding : f.state = .feeding
    · refine .inr ⟨f, rfl, feeding, ?_⟩
      simp only [State.endFeed, held, if_pos feeding]
      split
      · next ok =>
        split
        · next confirmed => exact .inl ⟨ok, confirmed, rfl⟩
        · exact .inr (.inl ⟨ok, rfl⟩)
      · exact .inr (.inr rfl)
    · refine .inl ⟨fun g hg => ?_, by simp only [State.endFeed, held, if_neg feeding]⟩
      exact Option.mem_some_iff.mp hg ▸ feeding

theorem KeepsRegisters.endFeed {s t : State} (h : KeepsRegisters s t) (b : BayIx) (c : EndCause) :
    KeepsRegisters s (t.endFeed b c) := by
  obtain ⟨-, e⟩ | ⟨f, -, -, ended⟩ := endFeed_cases t b c
  · rwa [e]
  have told : KeepsRegisters s (t.feedEnded b f c) :=
    (((h.setFeed b _).setValve b false).setBay b (r := { t.bay b with
      state := .closing, closeWatch := if t.switch b then none else some (t.now + 2000) }) fun _ => id).asides (endTold_asides _ f.purpose f.owner c)
  obtain ⟨ok, -, e⟩ | ⟨-, e⟩ | e := ended <;> rw [e]
  · exact told.openWindow .feedEnd ok
  · exact told
  · exact (told.bookByEstimate b).leaveClosing b

theorem KeepsRegisters.endFeeds {s t : State} (h : KeepsRegisters s t) (which : GasClass → Bool) (c : EndCause) :
    KeepsRegisters s (t.endFeeds which c) := by
  refine h.trans (KeepsRegisters.foldl (fun t n => ?_) _ t)
  split
  · split
    · exact (KeepsRegisters.refl t).endFeed _ c
    · exact .refl t
  · exact .refl t

theorem KeepsRegisters.confirmClose {s t : State} (h : KeepsRegisters s t) (b : BayIx) :
    KeepsRegisters s (t.confirmClose b) := by
  have confirmed := h.setBay b (r := { t.bay b with closeWatch := none }) fun _ => id
  unfold State.confirmClose
  dsimp only
  split
  · exact confirmed
  split
  · exact confirmed.leaveClosing b
  split
  · next ok => exact confirmed.openWindow .feedEnd ok
  · exact confirmed

theorem KeepsRegisters.expireClose {s t : State} (h : KeepsRegisters s t) (b : BayIx) :
    KeepsRegisters s (t.expireClose b) :=
  (((h.setBay b (r := { t.bay b with state := .fault, closeWatch := none }) fun _ => id).alarm .valveFault (some b.val)
    0).bookByEstimate b).setFeed b none

theorem KeepsRegisters.setInterlock {s t : State} (h : KeepsRegisters s t) (i : Interlock) :
    KeepsRegisters s (t.setInterlock i) := by
  have written : KeepsRegisters s { t with interlock := i } := h.trans ⟨id, id, rfl⟩
  unfold State.setInterlock
  dsimp only
  split
  · exact ((written.endFeeds flammable .interlock).purge (fun e => flammable e.cls) .permitOff).alarm .permitDropped none 0
  · exact written

theorem assertEstop_keepsRegisters (s : State) : KeepsRegisters s (assertEstop s) := by
  have written : KeepsRegisters s { s with interlock := { s.interlock with estop := true } } := ⟨id, id, rfl⟩
  unfold assertEstop
  split
  · exact .refl s
  · exact ((written.endFeeds (fun _ => true) .estop).purge (fun _ => true) .estop).alarm .estopOn none 0

/-! ### Every act -/

/-- A reading taken from a window in range is delivered. -/
theorem reading_keepsRegisters {s : State} {b : BayIx} {w : Window} {gross : Nat} (unstable : Bool)
    (range : (s.channel b).inRange → w.purpose ≠ .zeroCapture → gross ≤ 1000000) :
    KeepsRegisters s ((s.windowEnded b unstable).deliverReading b w.purpose gross unstable) := by
  have ended : KeepsRegisters s (s.windowEnded b unstable) := by
    unfold State.windowEnded
    dsimp only
    split
    · exact ((KeepsRegisters.refl s).endWindow b).alarm _ _ _
    · exact (KeepsRegisters.refl s).endWindow b
  exact ended.deliverReading b w.purpose unstable fun start => range (start b).1

theorem Act.keepsRegisters {s t : State} (a : Act s t) : KeepsRegisters s t := by
  have stands := KeepsRegisters.refl s
  cases a with
  | aside a => exact a.keepsRegisters
  | figures b r state watch range => exact stands.setBay b fun _ => range
  | restate b r before after watch range => exact stands.setBay b fun _ => range
  | unfeed b idle => exact stands.setFeed b none
  | channel b r purpose range => exact stands.setChannel b range
  | feed b f f' => exact stands.setFeed b _
  | wait n tag k g w => exact (stands.setWaits _).asides ((Asides.refl _).setSlot n nofun)
  | grant b n w g => exact stands.grant b n w g
  | scan b => exact stands.scan b
  | leave e st => exact stands.endEntry e st
  | service b => exact stands.enterService b
  | endFeed b c => exact stands.endFeed b c
  | bookLoss b => exact stands.bookByEstimate b
  | leaveClosing b => exact stands.leaveClosing b
  | reading b w gross unstable window range => exact reading_keepsRegisters unstable range
  | confirm b => exact stands.confirmClose b
  | expire b => exact stands.expireClose b
  | interlock i => exact stands.setInterlock i
  | estop => exact assertEstop_keepsRegisters s

end Sys2Proof.Machine
end

section
namespace Sys2Proof.Machine

/-! ### The plant line (Chapter 9) -/

/-- The Plant Line Interface in range: what `LineOk` asks of it, by name (R147, R152). -/
structure Pli.Sound (p : Pli) : Prop where
  buffer : p.buffer.length ≤ 4
  conn : ∀ c ∈ p.conn, c.inRange
  turn : ∀ c ∈ p.conn, OutFrame.turn ∈ p.sending → c.bursts < 7
  stands : p.conn ≠ none → p.line = .connected ∨ p.line = .selecting
  acking : p.acking ≠ none → p.line = .selecting ∧ p.conn = none

theorem lineOk_iff (s : State) : LineOk s ↔ s.pli.Sound :=
  ⟨fun ⟨buffer, conn, turn, stands, acking⟩ => ⟨buffer, conn, turn, stands, acking⟩,
    fun ⟨buffer, conn, turn, stands, acking⟩ => ⟨buffer, conn, turn, stands, acking⟩⟩

/-- A command of the line is made of acts and of changes to the Plant Line Interface. -/
inductive LineAct (s : State) : State → Prop where
  | act {t : State} (a : Act s t) : LineAct s t
  | line (p : Pli) (sound : s.pli.Sound → p.Sound) : LineAct s (s.setPli p)

/-- A chain of them. -/
def LineActs (s t : State) : Prop := Relation.ReflTransGen LineAct s t

theorem LineActs.refl (s : State) : LineActs s s := Relation.ReflTransGen.refl

theorem LineActs.trans {s t u : State} (h : LineActs s t) (k : LineActs t u) : LineActs s u :=
  Relation.ReflTransGen.trans h k

theorem LineActs.act {s t u : State} (h : LineActs s t) (a : Act t u) : LineActs s u :=
  Relation.ReflTransGen.tail h (.act a)

theorem LineActs.line {s t : State} (h : LineActs s t) {p : Pli} (sound : t.pli.Sound → p.Sound) :
    LineActs s (t.setPli p) := Relation.ReflTransGen.tail h (.line p sound)

theorem Acts.lineActs {s t : State} (h : Acts s t) : LineActs s t :=
  Relation.ReflTransGen.mono (fun _ _ a => LineAct.act a) s t h

/-- What each act and each sound change of the line keeps, a chain of them keeps. -/
theorem LineActs.keeps {P : State → Prop} (h : ∀ s t, Act s t → P s → P t)
    (hl : ∀ s p, (s.pli.Sound → p.Sound) → P s → P (s.setPli p)) {s t : State} (acts : LineActs s t) (hs : P s) :
    P t := by
  induction acts with
  | refl => exact hs
  | tail _ a ih =>
    cases a with
    | act a => exact h _ _ a ih
    | line p sound => exact hl _ p sound ih

/-- Without a connection and an answer under way nothing is out of range. -/
theorem dropped_sound (p : Pli) (l : LineState) : (p.dropped l).Sound :=
  ⟨Nat.zero_le _, nofun, nofun, fun h => absurd rfl h, fun h => absurd rfl h⟩

/-- Frames other than TURN may join those being sent (R152). -/
theorem Pli.Sound.send {p : Pli} (h : p.Sound) {f : OutFrame} (other : f ≠ .turn) :
    ({ p with sending := p.sending ++ [f] } : Pli).Sound := by
  refine ⟨h.buffer, h.conn, fun c hc turn => h.turn c hc ?_, h.stands, h.acking⟩
  obtain turn | turn := List.mem_append.mp turn
  · exact turn
  · exact absurd (List.mem_singleton.mp turn).symm other

/-- Frames may leave those being sent. -/
theorem Pli.Sound.sent {p : Pli} (h : p.Sound) {fs : List OutFrame} (fewer : fs ⊆ p.sending) :
    ({ p with sending := fs } : Pli).Sound :=
  ⟨h.buffer, h.conn, fun c hc turn => h.turn c hc (fewer turn), h.stands, h.acking⟩

theorem LineActs.countError {s t : State} (h : LineActs s t) (n : Node) : LineActs s (t.countError n) := by
  have slot : (t.node n).countError.slot = (t.node n).slot := by
    unfold NodeRec.countError
    split <;> rfl
  refine h.act (.aside <| .node n _ (fun e => slot ▸ e) fun ok => ?_)
  obtain ⟨errors, rest⟩ := ok
  unfold NodeRec.countError
  split
  · exact ⟨le_rfl, rest⟩
  · exact ⟨by dsimp only; omega, rest⟩

theorem LineActs.setPresence {s t : State} (h : LineActs s t) (n : Node) (p : Presence) :
    LineActs s (t.setPresence n p) := h.act (.aside <| .node n _ id id)

theorem LineActs.discardFrame {s t : State} (h : LineActs s t) (c : Conn) (e : ErrBit) :
    LineActs s (t.discardFrame c e) := by
  have added : LineActs s (t.addError e) := h.line fun ok => ⟨ok.buffer, ok.conn, ok.turn, ok.stands, ok.acking⟩
  unfold State.discardFrame State.haltBurst
  dsimp only
  split
  · split
    · exact (added.countError c.partner).line fun ok => ⟨ok.buffer, ok.conn, ok.turn, ok.stands, ok.acking⟩
    · exact added.countError c.partner
  · exact added

theorem LineActs.keepRequest {s t : State} (h : LineActs s t) (c : Conn) (f : ReqFrame) :
    LineActs s (t.keepRequest c f) := by
  unfold State.keepRequest
  split
  · exact h.discardFrame c .burstOver
  split
  · exact h.discardFrame c .skipped
  · refine h.line fun ok => ⟨?_, ok.conn, ok.turn, ok.stands, ok.acking⟩
    simp only [List.length_append, List.length_singleton]
    omega

theorem LineActs.touch {s t : State} (h : LineActs s t) : LineActs s t.touch := by
  refine h.line fun ok => ⟨ok.buffer, fun c hc => ?_, fun c hc turn => ?_, fun conn => ok.stands ?_, fun acking => ?_⟩
  · obtain ⟨c₀, held, rfl⟩ := Option.map_eq_some_iff.mp hc
    obtain ⟨bursts, deadline⟩ := ok.conn c₀ held
    split
    · next turn => exact ⟨bursts, ⟨fun _ => turn, fun _ => nofun⟩⟩
    · exact ⟨bursts, deadline⟩
  · obtain ⟨c₀, held, rfl⟩ := Option.map_eq_some_iff.mp hc
    have few := ok.turn c₀ held turn
    split
    · exact few
    · exact few
  · exact fun none => conn (by simp [none])
  · obtain ⟨selecting, none⟩ := ok.acking acking
    exact ⟨selecting, by simp [none]⟩

/-! #### The reply burst (R151, R152) -/

theorem moveCursor_acts (s : State) (n : Node) (space : Nat) : Acts s (s.moveCursor n space) := by
  unfold State.moveCursor
  dsimp only
  split
  · exact .refl s
  · next some =>
    have items : (s.node n).digest ≠ [] := fun none => some (.inl none)
    have moved (k : Nat) : Acts s (s.setNode n { s.node n with
        cursor := ((s.node n).cursor + k) % (s.node n).digest.length }) := by
      refine (Acts.refl s).node n _ id fun ok => ?_
      obtain ⟨errors, low, high, digest, -⟩ := ok
      exact ⟨errors, low, high, digest, fun none => absurd none items,
        fun _ => Nat.mod_lt _ (List.length_pos_of_ne_nil items)⟩
    exact (moved _).frame ⟨rfl, rfl, rfl, rfl, rfl, rfl, rfl, rfl, rfl⟩ ⟨rfl, rfl, rfl⟩

theorem afterReply_pli (s : State) (n : Node) (st : Status) (k : ReqKind) (b : Body) :
    (s.afterReply n st k b).pli = s.pli := by
  unfold State.afterReply State.moveCursor
  dsimp only
  split <;> rfl

/-- A reply joins the frames being sent, and nothing else of the line changes (R152). -/
def PliSends (s t : State) : Prop := t.pli = { s.pli with sending := t.pli.sending }

theorem PliSends.trans {s t u : State} (h : PliSends s t) (k : PliSends t u) : PliSends s u := by
  unfold PliSends at *
  rw [k, h]

theorem sendSlotReply_acts (s : State) (n : Node) :
    LineActs s (s.sendSlotReply n) ∧ PliSends s (s.sendSlotReply n) := by
  unfold State.sendSlotReply
  split
  · exact ⟨.refl s, rfl⟩
  · refine ⟨(moveCursor_acts s n _).lineActs.line fun ok => ok.send nofun, ?_⟩
    rw [PliSends, State.setPli_pli, afterReply_pli]

theorem sendAnswer_acts (s : State) (n : Node) (a : Answer) :
    LineActs s (s.sendAnswer n a) ∧ PliSends s (s.sendAnswer n a) := by
  refine ⟨(moveCursor_acts s n _).lineActs.line fun ok => ok.send nofun, ?_⟩
  unfold PliSends State.sendAnswer
  dsimp only
  rw [State.setPli_pli, afterReply_pli]

theorem sendAnswers_acts (n : Node) (answers : List Answer) (s : State) :
    LineActs s (answers.foldl (fun t a => t.sendAnswer n a) s) ∧
      PliSends s (answers.foldl (fun t a => t.sendAnswer n a) s) := by
  induction answers generalizing s with
  | nil => exact ⟨.refl s, rfl⟩
  | cons a rest ih =>
    obtain ⟨first, sends⟩ := sendAnswer_acts s n a
    obtain ⟨others, sends'⟩ := ih (s.sendAnswer n a)
    exact ⟨first.trans others, sends.trans sends'⟩

/-- The reply burst of a connection ends with TURN only before its eighth burst (R152). -/
theorem composeBurst_acts {s : State} {c : Conn} (conn : s.pli.conn = some c) (n : Node) (answers : List Answer) :
    LineActs s (s.composeBurst n c.bursts answers) := by
  have cleared : LineActs s (s.setPli { s.pli with sending := [] }) :=
    (LineActs.refl s).line fun ok => ok.sent (List.nil_subset _)
  obtain ⟨slot, sends⟩ := sendSlotReply_acts (s.setPli { s.pli with sending := [] }) n
  obtain ⟨replies, sends'⟩ := sendAnswers_acts n answers ((s.setPli { s.pli with sending := [] }).sendSlotReply n)
  unfold State.composeBurst
  refine ((cleared.trans slot).trans replies).line fun ok => ⟨ok.buffer, ok.conn, fun c' hc turn => ?_, ok.stands, ok.acking⟩
  obtain turn | turn := List.mem_append.mp turn
  · exact ok.turn c' hc turn
  · have stands := congrArg Pli.conn (sends.trans sends')
    have same : c' = c := Option.some.inj (hc.symm.trans (stands.trans conn))
    subst same
    by_contra many
    simp only [burstTail, if_pos (Nat.le_of_not_lt many)] at turn
    split at turn <;> simp at turn

end Sys2Proof.Machine
end

section
namespace Sys2Proof.Machine

/-! #### Frames of a connection (R150, R151, R158) -/

/-- Acts reach the line in the delivery list alone (R153). -/
theorem Acts.delivers {s t : State} (h : Acts s t) : PliDelivers s t := by
  induction h with
  | refl => rfl
  | tail _ a ih => exact ih.trans a.keepsRegisters.line

/-- The connection the PLI is a party to stands on a CONNECTED line (R147). -/
theorem openConn_eq_some {s : State} {c : Conn} (h : s.openConn = some c) : s.pli.line = .connected ∧ s.pli.conn = some c := by
  unfold State.openConn at h
  split at h
  · next connected => exact ⟨connected, h⟩
  · exact absurd h nofun

/-- While a connection stands, no answer to a SELECT is under way (R149). -/
theorem Pli.Sound.acking_none {p : Pli} (h : p.Sound) {c : Conn} (conn : p.conn = some c) : p.acking = none := by
  by_contra some
  obtain ⟨-, none⟩ := h.acking some
  exact absurd (none.symm.trans conn) nofun

/-- A connection gives way to one in range that has sent as many bursts; TURN is not being sent anew (R152). -/
theorem Pli.Sound.reconnect {p : Pli} (h : p.Sound) {c c' : Conn} (conn : p.conn = some c) (range : c'.inRange)
    {buffer : List ReqFrame} (few : buffer.length ≤ 4) {halted : Bool} {sending : List OutFrame}
    (turn : OutFrame.turn ∈ sending → c'.bursts < 7) :
    ({ p with buffer := buffer, halted := halted, conn := some c', sending := sending } : Pli).Sound := by
  refine ⟨few, fun d hd => ?_, fun d hd => ?_, fun _ => h.stands (by simp [conn]), fun acking => ?_⟩
  · exact Option.mem_some_iff.mp hd ▸ range
  · exact Option.mem_some_iff.mp hd ▸ turn
  · exact absurd (h.acking_none conn) acking

theorem takeTurn_acts {s : State} {c : Conn} (conn : s.pli.conn = some c) : LineActs s (s.takeTurn c) := by
  have taken := takeAll_acts c.partner s.pli.buffer s
  have stands := taken.delivers
  have held : (takeAll c.partner s.pli.buffer s).1.pli.conn = some c := by rw [stands]; exact conn
  have turned : LineActs s ((takeAll c.partner s.pli.buffer s).1.setPli { (takeAll c.partner s.pli.buffer s).1.pli with
      buffer := [], halted := false, conn := some { c with turn := .gx, deadline := none } }) := by
    have range (ok : c.inRange) : ({ c with turn := .gx, deadline := none } : Conn).inRange :=
      ⟨ok.1, by simp [Conn.partnersTurn]⟩
    exact taken.lineActs.line fun ok => 
      ok.reconnect held (range (ok.conn c held)) (buffer := []) (Nat.zero_le 4) (ok.turn c held)
  exact turned.trans (composeBurst_acts (c := { c with turn := .gx, deadline := none }) rfl c.partner _)

theorem LineActs.endConn {s t : State} (h : LineActs s t) : LineActs s t.endConn := h.line fun _ => dropped_sound _ _

theorem keepFrame_acts {s t : State} {c : Conn} (h : LineActs s t) (conn : t.pli.conn = some c) (f : Kept) :
    LineActs s (t.keepFrame c f) := by
  unfold State.keepFrame
  split
  · cases f with
    | request r => exact (h.keepRequest c r).touch
    | ctrl k =>
      cases k with
      | fill => exact h.touch
      | turn => exact h.trans (takeTurn_acts conn)
      | endFrame => exact h.endConn
      | _ => exact (h.discardFrame c .outOfPlace).touch
  · exact h.discardFrame c .outOfPlace

theorem LineActs.noteFixed {s t : State} (h : LineActs s t) (corrected : Bool) : LineActs s (t.noteFixed corrected) := by
  unfold State.noteFixed
  split
  · exact h.line fun ok => ⟨ok.buffer, ok.conn, ok.turn, ok.stands, ok.acking⟩
  · exact h

theorem noteFixed_conn (s : State) (corrected : Bool) : (s.noteFixed corrected).pli.conn = s.pli.conn := by
  unfold State.noteFixed
  split <;> rfl

theorem receive_acts (raw : RawFrame) (s : State) : LineActs s (receive raw s) := by
  unfold receive
  split
  · next c opened =>
    obtain ⟨-, conn⟩ := openConn_eq_some opened
    cases verdict : checkFrame c.partner raw with
    | discard e corrected => exact (((LineActs.refl s).noteFixed corrected).discardFrame c e).touch
    | keep f corrected =>
      exact keepFrame_acts ((LineActs.refl s).noteFixed corrected) ((noteFixed_conn s corrected).trans conn) f
  · exact .refl s

theorem takeEnd_acts (raw : RawFrame) (s : State) : LineActs s (takeEnd raw s) := by
  unfold takeEnd
  split
  · exact (LineActs.refl s).endConn
  · exact receive_acts raw s

/-! #### Selections (R148, R149, R154, R155) -/

theorem takeArbitration_acts (masters : List (BitVec 4)) (s : State) : LineActs s (takeArbitration masters s) := by
  unfold takeArbitration
  split
  · split
    · refine (LineActs.refl s).line fun _ => ?_
      exact ⟨Nat.zero_le _, nofun, nofun, fun h => absurd rfl h, fun h => absurd rfl h⟩
    · exact .refl s
  · exact .refl s

/-- Neither a connection nor an answer is under way where the line is followed (R147). -/
theorem following_iff (p : Pli) : p.following = true ↔ p.conn = none ∧ p.acking = none := by
  simp [Pli.following]

theorem takeSelect_acts (raw : RawFrame) (s : State) : LineActs s (takeSelect raw s) := by
  unfold takeSelect
  split
  · next selecting =>
    obtain ⟨line, following⟩ := selecting
    obtain ⟨conn, -⟩ := (following_iff _).mp following
    split
    · refine (LineActs.refl s).line fun ok => ⟨ok.buffer, ok.conn, ?_, ok.stands, fun _ => ⟨line, conn⟩⟩
      simp [conn]
    · exact .refl s
  · exact receive_acts raw s

/-- A connection that begins, on a line that is its own (R149, R154). -/
theorem Pli.Sound.connect {p : Pli} (buffer : p.buffer.length ≤ 4) {c : Conn} (conn : p.conn = some c)
    (range : c.inRange) (line : p.line = .connected ∨ p.line = .selecting) (few : c.bursts < 7)
    (acking : p.acking = none) : p.Sound := by
  refine ⟨buffer, fun d hd => ?_, fun d hd _ => ?_, fun _ => line, fun some => absurd acking some⟩
  · rw [conn] at hd; exact Option.mem_some_iff.mp hd ▸ range
  · rw [conn] at hd; exact Option.mem_some_iff.mp hd ▸ few

theorem completeSelection_acts (s : State) : LineActs s (completeSelection s) := by
  unfold completeSelection
  split
  · next n _ _ =>
    have range : (s.masterConn n).inRange := ⟨Nat.zero_le _, by simp [State.masterConn, Conn.partnersTurn]⟩
    have connected : LineActs s (s.setPli { s.pli.dropped .connected with conn := some (s.masterConn n) }) :=
      (LineActs.refl s).line fun _ => .connect (Nat.zero_le _) rfl range (.inl rfl) (Nat.zero_lt_succ _) rfl
    exact connected.setPresence n .present
  · exact .refl s

theorem reselectionConn_inRange (n : Node) : (reselectionConn n).inRange :=
  ⟨Nat.zero_le _, by simp [reselectionConn, Conn.partnersTurn]⟩

theorem reselect_acts (s : State) : LineActs s (reselect s) := by
  unfold reselect
  split
  · exact .refl s
  · next n _ _ =>
    split
    · next won =>
      obtain ⟨line, -, following⟩ := won
      obtain ⟨-, acking⟩ := (following_iff _).mp following
      exact (LineActs.refl s).line fun ok =>
        .connect ok.buffer rfl (reselectionConn_inRange n) (.inr line) (Nat.zero_lt_succ _) acking
    · exact .refl s

theorem deliverReselected_acts {s : State} {c : Conn} (conn : s.pli.conn = some c) : LineActs s (s.deliverReselected c) := by
  have connected : LineActs s (s.setPli { s.pli.dropped .connected with conn := some c }) := by
    refine (LineActs.refl s).line fun ok => ⟨Nat.zero_le _, fun d hd => ok.conn d ?_, nofun, fun _ => .inl rfl, nofun⟩
    rw [conn]
    exact hd
  have answered := (connected.setPresence c.partner .present).trans (sendSlotReply_acts _ c.partner).1
  exact answered.line fun ok => ok.send nofun

theorem takeSelectAck_acts (raw : RawFrame) (s : State) : LineActs s (takeSelectAck raw s) := by
  unfold takeSelectAck
  split
  · split
    · next c conn =>
      split
      · exact deliverReselected_acts conn
      · exact .refl s
    · split
      · exact (LineActs.refl s).line fun _ => dropped_sound _ _
      · exact .refl s
  · exact receive_acts raw s

/-- The end of a connection by the PLI sends END (R155, R156). -/
theorem LineActs.endConnWithEnd {s t : State} (h : LineActs s t) : LineActs s t.endConnWithEnd :=
  h.line fun _ => ⟨Nat.zero_le _, nofun, nofun, fun h => absurd rfl h, fun h => absurd rfl h⟩

/-- The delivery list is under no bound of the line's (R153). -/
theorem LineActs.undeliver {s t : State} (h : LineActs s t) (n : Node) : LineActs s (t.undeliver n) :=
  h.act (.aside (.delivery _))

theorem failReselection_acts (s : State) (n : Node) : LineActs s (s.failReselection n) := by
  have held : LineActs s (s.setNode n { s.node n with slot := (s.node n).slot.hold, presence := .unreachable }) := by
    refine (LineActs.refl s).act (.aside (.node n _ (fun empty => ?_) id))
    cases slot : (s.node n).slot with
    | empty => rfl
    | _ => simp [Slot.hold, slot] at empty
  exact ((held.undeliver n).trans ((Acts.refl _).alarm _ _ _).lineActs).endConnWithEnd

theorem passReselection_acts (arrival : Nat) (s : State) : LineActs s (passReselection arrival s) := by
  have advanced := ((Acts.refl s).advance arrival).lineActs
  unfold passReselection
  dsimp only
  split
  · split
    · exact advanced.trans (failReselection_acts _ _)
    · exact advanced
  · exact advanced

theorem passTurn_acts (arrival : Nat) (s : State) : LineActs s (passTurn arrival s) := by
  have advanced := ((Acts.refl s).advance arrival).lineActs
  unfold passTurn
  dsimp only
  split
  · split
    · exact (advanced.countError _).endConnWithEnd
    · exact advanced
  · exact advanced

/-! #### Line resets and frames sent whole (R152, R153, R157) -/

theorem LineActs.returnHeld {s t : State} (h : LineActs s t) (c : Conn) : LineActs s (t.returnHeld c) := by
  unfold State.returnHeld
  split
  · split
    · exact h.trans ((Acts.refl t).asides ((Asides.refl t).deliver c.partner _)).lineActs
    · exact h
  · exact h

theorem LineActs.abandonLine {s t : State} (h : LineActs s t) (receiving : Bool) : LineActs s (t.abandonLine receiving) := by
  unfold State.abandonLine
  split
  · exact h.line fun _ => dropped_sound _ _
  · dsimp only
    refine LineActs.line (LineActs.returnHeld ?_ _) fun _ => dropped_sound _ _
    split
    · exact h.countError _
    · exact h

theorem LineActs.takeLineReset {s t : State} (h : LineActs s t) (receiving : Bool) :
    LineActs s (takeLineReset receiving t) := by
  unfold Machine.takeLineReset
  split
  · exact h
  · exact h.abandonLine receiving

theorem releaseLine_acts (s : State) : LineActs s (releaseLine s) := by
  unfold releaseLine
  split
  · have freed : LineActs s (s.setPli { s.pli.dropped .free with claimHold := none }) :=
      (LineActs.refl s).line fun _ => ⟨Nat.zero_le _, nofun, nofun, fun h => absurd rfl h, fun h => absurd rfl h⟩
    exact freed.trans ((Acts.refl _).alarm _ _ _).lineActs
  · exact .refl s

/-- The claim hold is under no bound of the line's (R157). -/
theorem LineActs.setClaimHold {s t : State} (h : LineActs s t) (d : Option Nat) :
    LineActs s (t.setPli { t.pli with claimHold := d }) :=
  h.line fun ok => ⟨ok.buffer, ok.conn, ok.turn, ok.stands, ok.acking⟩

theorem passIdle_acts (arrival : Nat) (s : State) : LineActs s (passIdle arrival s) := by
  have advanced := ((Acts.refl s).advance arrival).lineActs
  unfold passIdle
  dsimp only
  split
  · exact advanced
  · exact (advanced.takeLineReset false).setClaimHold _

/-- What follows the ordinary replies at the head is being sent too (R152). -/
theorem afterReplies_suffix (fs : List OutFrame) : OutFrame.afterReplies fs <:+ fs := by
  induction fs with
  | nil => exact List.suffix_rfl
  | cons f rest ih =>
    cases f with
    | reply a k => exact ih.trans (List.suffix_cons _ rest)
    | _ => exact List.suffix_rfl

theorem reportSent_acts (s : State) : LineActs s (reportSent s) := by
  unfold reportSent
  split
  · next e rest heads =>
    refine (LineActs.refl s).line fun ok => ⟨ok.buffer, ok.conn, fun c hc turn => ok.turn c hc ?_, ok.stands, ok.acking⟩
    exact (afterReplies_suffix s.pli.sending).subset (heads ▸ List.mem_cons_of_mem _ turn)
  · exact .refl s

/-- TURN passes the turn back before the eighth burst only (R152). -/
theorem passTurnBack_acts {s : State} {c : Conn} (conn : s.pli.conn = some c) (master : c.kind = .master)
    (turn : OutFrame.turn ∈ s.pli.sending) : LineActs s (s.passTurnBack c) := by
  have range (few : c.bursts < 7) : ({ c with turn := .partner, bursts := c.bursts + 1, deadline := some (s.now + 50) } :
      Conn).inRange := ⟨few, by simp [Conn.partnersTurn, master]⟩
  exact (LineActs.refl s).line fun ok => ok.reconnect conn (range (ok.turn c conn turn)) ok.buffer nofun

theorem burstEndSent_acts (s : State) : LineActs s (burstEndSent s) := by
  unfold burstEndSent
  split
  · next c opened heads =>
    obtain ⟨-, conn⟩ := openConn_eq_some opened
    split
    · next master =>
      exact passTurnBack_acts conn master ((afterReplies_suffix _).subset (heads ▸ List.mem_singleton_self _))
    · exact .refl s
  · exact (LineActs.refl s).endConn
  · exact (LineActs.refl s).line fun ok => ok.sent (List.nil_subset _)
  · exact .refl s

end Sys2Proof.Machine
end

section
namespace Sys2Proof.Machine

/-! ## What a step can do -/

/-- What a step can do: outside reset a chain of acts and sound changes of the line, or the end of a slot reply's
sending; and, in reset too, a change of records, clock or switches, a level of an interlock input, the assertion of the
reset input, and a start. -/
inductive Effect (s : State) : State → Prop where
  | running {t : State} (run : s.inReset = false) (acts : LineActs s t) : Effect s t
  | slotReply (run : s.inReset = false) : Effect s (slotReplySent s)
  | records {t : State} (blocks : SameBlocks s t) (settings : SettingsOk s → SettingsOk t) : Effect s t
  /-- Under reset an input changes its item alone; outside, so does the release of the E-stop (R136, R144). -/
  | level (i : Interlock) (h : s.inReset = true ∨ i = { s.interlock with estop := false }) :
      Effect s { s with interlock := i }
  | assertReset : Effect s (assertReset s)
  | start (inReset : Bool) : Effect s (startUp { s with inReset := inReset })

theorem Effect.refl (s : State) : Effect s s := .records ⟨rfl, rfl, rfl, rfl, rfl, rfl, rfl, rfl, rfl⟩ id

/-- What leaves blocks, alarms, parameters and batches as they are. -/
theorem Effect.frame {s t : State} (blocks : SameBlocks s t)
    (settings : t.alarms = s.alarms ∧ t.params = s.params ∧ t.batches = s.batches) : Effect s t := by
  obtain ⟨alarms, params, batches⟩ := settings
  refine .records blocks fun ok => ?_
  simpa only [SettingsOk, State.node, State.line, blocks.nodes, alarms, params, batches] using ok

/-- A command that is at rest under reset (R146). -/
theorem live_effect {act : State → State} {s t : State} (h : s.inReset = false → Effect s (act s))
    (e : live act s = .next t) : Effect s t := by
  rw [live_spec] at e
  obtain rfl := Host.Outcome.next.inj e
  split
  · exact .refl s
  · next run => exact h (by simpa using run)

theorem live_acts {act : State → State} {s t : State} (h : LineActs s (act s)) (e : live act s = .next t) : Effect s t :=
  live_effect (fun run => .running run h) e

theorem next_effect {s t u : State} (h : Effect s u) (e : (Host.Outcome.next u : Host.Outcome State Fault Refusal) = .next t) :
    Effect s t := by
  obtain rfl := Host.Outcome.next.inj e
  exact h

/-- An input acts outside reset, and changes its item alone under reset (R136, R146). -/
theorem input_effect {s u v : State} (reset : s.inReset = true → Effect s u) (run : LineActs s v) :
    Effect s (if s.inReset then u else v) := by
  cases held : s.inReset with
  | true => exact reset held
  | false => exact .running held run

theorem exec_effect (c : Instr) {s t : State} (e : exec c s = .next t) : Effect s t := by
  have request := (takeRequest_acts c s).lineActs
  have gas (healthy : Bool) := ((Acts.refl s).act (.interlock { s.interlock with healthy := healthy } rfl)).lineActs
  cases c with
  | requestFrameReceived raw => exact live_acts (receive_acts raw s) e
  | frameDiscarded raw => exact live_acts (receive_acts raw s) e
  | fill raw => exact live_acts (receive_acts raw s) e
  | turn raw => exact live_acts (receive_acts raw s) e
  | endFrame raw => exact live_acts (takeEnd_acts raw s) e
  | select raw => exact live_acts (takeSelect_acts raw s) e
  | selectionComplete => exact live_acts (completeSelection_acts s) e
  | slotReplyDelivered => exact live_effect .slotReply e
  | reportSent => exact live_acts (reportSent_acts s) e
  | arbitration contenders => exact live_acts (takeArbitration_acts contenders s) e
  | reselection => exact live_acts (reselect_acts s) e
  | selectAck raw => exact live_acts (takeSelectAck_acts raw s) e
  | reselectionTimeout arrival => exact live_acts (passReselection_acts arrival s) e
  | turnTimeout arrival => exact live_acts (passTurn_acts arrival s) e
  | lineReset receiving => exact live_acts ((LineActs.refl s).takeLineReset receiving) e
  | lineResetRelease => exact live_acts (releaseLine_acts s) e
  | lineIdleTimeout arrival => exact live_acts (passIdle_acts arrival s) e
  | replyBurstEndSent => exact live_acts (burstEndSent_acts s) e
  | sample bay x => exact live_acts (takeSample_acts bay x s).lineActs e
  | silenceDeadline bay arrival => exact live_acts (passSilence_acts bay arrival s).lineActs e
  | settleDeadline bay arrival => exact live_acts (passSettle_acts bay arrival s).lineActs e
  | holdDeadline bay arrival => exact live_acts (passHold_acts bay arrival s).lineActs e
  | waitDeadline node arrival => exact live_acts (passWait_acts node arrival s).lineActs e
  | closeWatchExpiry bay arrival => exact live_acts (passCloseWatch_acts bay arrival s).lineActs e
  | storeWriteEnd =>
    exact live_effect (fun _ => .frame ⟨rfl, rfl, rfl, rfl, rfl, rfl, rfl, rfl, rfl⟩ ⟨rfl, rfl, rfl⟩) e
  | switchClosed bay =>
    exact next_effect (input_effect (fun _ => .frame (t := s.setSwitch bay true)
      ⟨rfl, rfl, rfl, rfl, rfl, rfl, rfl, rfl, rfl⟩ ⟨rfl, rfl, rfl⟩) (switchCloses_acts bay s).lineActs) e
  | switchOpen bay =>
    exact next_effect (.frame (t := s.setSwitch bay false) ⟨rfl, rfl, rfl, rfl, rfl, rfl, rfl, rfl, rfl⟩
      ⟨rfl, rfl, rfl⟩) e
  | estopAssert =>
    exact next_effect (input_effect (fun held => .level { s.interlock with estop := true } (.inl held))
      ((Acts.refl s).act .estop).lineActs) e
  | estopRelease => exact next_effect (.level { s.interlock with estop := false } (.inr rfl)) e
  | gasNotHealthy =>
    exact next_effect (input_effect (fun held => .level { s.interlock with healthy := false } (.inl held)) (gas false)) e
  | gasHealthy =>
    exact next_effect (input_effect (fun held => .level { s.interlock with healthy := true } (.inl held)) (gas true)) e
  | resetAssert => exact next_effect .assertReset e
  | resetRelease =>
    refine next_effect ?_ e
    split
    · exact .start false
    · exact .refl s
  | powerOn => exact next_effect (.start s.inReset) e
  | calibrate n tag bay zeroAt scale =>
    refine live_acts ?_ e
    split
    · exact (take_acts (ownZeroCapture_acts s bay scale) n tag _).lineActs
    · exact request
  | _ => exact live_acts request e

/-- The PLI lets go of the claim pair (R157). -/
theorem LineActs.dropClaim {s t : State} (h : LineActs s t) : LineActs s t.dropClaim := by
  unfold State.dropClaim
  split
  · exact h.setClaimHold none
  · exact h

/-- Commands join the queue (log 3). -/
theorem LineActs.enqueue {s t : State} (h : LineActs s t) (queue : List Instr) : LineActs s { t with pending := queue } :=
  h.trans (Acts.frame (u := { t with pending := queue }) (.refl t) ⟨rfl, rfl, rfl, rfl, rfl, rfl, rfl, rfl, rfl⟩
    ⟨rfl, rfl, rfl⟩).lineActs

/-- A millisecond on an empty queue moves the clock, and outside reset the claim pair and the queue (R146, R157). -/
theorem tick_effect (s : State) : Effect s (tick s) := by
  have later : SameBlocks s { s with now := s.now + 1 } := ⟨rfl, rfl, rfl, rfl, rfl, rfl, rfl, rfl, rfl⟩
  cases run : s.inReset with
  | true =>
    rw [show tick s = { s with now := s.now + 1 } by simp [tick, run]]
    exact .frame later ⟨rfl, rfl, rfl⟩
  | false =>
    have dropped := ((Acts.refl s).frame later ⟨rfl, rfl, rfl⟩).lineActs.dropClaim
    rw [show tick s = { State.dropClaim { s with now := s.now + 1 } with
      pending := s.pending ++ (State.dropClaim { s with now := s.now + 1 }).dueCommands } by
        simp [tick, run, dropClaim_eq]]
    exact .running run (dropped.enqueue _)

/-- A step runs the command at the front of the queue, or lets a millisecond pass (log 2). -/
theorem step_effect {s t : State} (e : step s = .next t) : ∃ queue, Effect { s with pending := queue } t := by
  unfold step at e
  split at e
  · exact ⟨s.pending, next_effect (tick_effect s) e⟩
  · next rest _ => exact ⟨rest, exec_effect _ e⟩

/-! ## Registers in range -/

theorem Act.lineOk {s t : State} (a : Act s t) (ok : LineOk s) : LineOk t := by
  rw [lineOk_iff] at ok ⊢
  rw [a.keepsRegisters.line]
  exact ⟨ok.buffer, ok.conn, ok.turn, ok.stands, ok.acking⟩

/-- The registers in their ranges. -/
structure RegistersOk (s t : State) : Prop where
  settings : SettingsOk s → SettingsOk t
  weighing : WeighOk s → WeighOk t
  line : LineOk s → LineOk t

theorem LineActs.registers {s t : State} (h : LineActs s t) : RegistersOk s t where
  settings := h.keeps (fun _ _ a => a.keepsRegisters.settings) fun _ _ _ => id
  weighing := h.keeps (fun _ _ a => a.keepsRegisters.weighing) fun _ _ _ => id
  line := h.keeps (fun _ _ a => a.lineOk) fun s p sound ok => (lineOk_iff (s.setPli p)).mpr (sound ((lineOk_iff s).mp ok))

/-- A delivered slot reply leaves its slot EMPTY (R152). -/
theorem slotReplySent_registers (s : State) : RegistersOk s (slotReplySent s) := by
  unfold slotReplySent
  split
  · next c tag bytes rest _ sending =>
    refine ⟨settingsOk_setNode (n := c.partner) (r := { s.node c.partner with slot := .empty }) id, id, fun ok => ?_⟩
    have sent := ((lineOk_iff s).mp ok).sent (fs := rest) (sending ▸ List.subset_cons_self _ rest)
    exact (lineOk_iff _).mpr ⟨sent.buffer, sent.conn, sent.turn, sent.stands, sent.acking⟩
  · exact ⟨id, id, id⟩

/-- A bay that comes back from its store record has nothing weighed in it (R40). -/
theorem restoreBay_figures (r : StoreRec) : (restoreBay r).figuresOk := by
  unfold restoreBay
  split
  · split <;> simp [Bay.figuresOk, Bay.initial]
  · simp [Bay.figuresOk, Bay.initial]

theorem restoreBays_get (r : Vector StoreRec 8) (b : BayIx) : (restoreBays r)[b] = restoreBay r[b] := by
  match b with
  | 0 | 1 | 2 | 3 | 4 | 5 | 6 | 7 => rfl

/-! ### A start (R40, R176) -/

/-- Every block at its power-on value, the bays as a store record restores them. -/
structure PoweredOn (s : State) : Prop where
  pli : s.pli = { }
  nodes : ∀ n : Node, s.node n = { }
  units : s.units = []
  waits : s.waits = []
  feeds : ∀ b : BayIx, s.feed b = none
  valves : ∀ b : BayIx, s.valve b = false
  channels : ∀ b : BayIx, s.channel b = Channel.initial
  bays : ∀ b : BayIx, ∃ r, s.bay b = restoreBay r
  batches : s.batches = BatchTable.initial
  params : s.params = { }
  counts : ∀ k : Fin 21, (s.alarms.recs[k]).count ≤ 255

theorem PoweredOn.alarm {s : State} (h : PoweredOn s) (k : AlarmKind) (x : Option Nat) (v : Int) :
    PoweredOn (s.alarm k x v) where
  pli := h.pli
  nodes := h.nodes
  units := h.units
  waits := h.waits
  feeds := h.feeds
  valves := h.valves
  channels := h.channels
  bays := h.bays
  batches := h.batches
  params := h.params
  counts j := by
    have kept := h.counts j
    simp only [State.alarm_alarms, AlarmSet.count, Fin.getElem_fin, Vector.getElem_set] at kept ⊢
    split
    · exact min_le_left _ _
    · exact kept

theorem defaults_poweredOn (s : State) (store : Store) : PoweredOn (s.defaults store) where
  pli := rfl
  nodes _ := Vector.getElem_replicate _
  units := rfl
  waits := rfl
  feeds _ := Vector.getElem_replicate _
  valves _ := Vector.getElem_replicate _
  channels _ := Vector.getElem_replicate _
  bays b := ⟨store.recs[b], restoreBays_get _ b⟩
  batches := rfl
  params := rfl
  counts k := by simp [State.defaults, AlarmSet.cleared]

theorem startUp_poweredOn (s : State) : PoweredOn (startUp s) := by
  have lost (bs : List BayIx) (t : State) (h : PoweredOn t) :
      PoweredOn (bs.foldl (fun t b => if t.store.recs[b].good then t else t.alarm .storeLost (some b.val)) t) := by
    induction bs generalizing t with
    | nil => exact h
    | cons b rest ih =>
      refine ih _ ?_
      dsimp only
      split
      · exact h
      · exact h.alarm _ _ _
  have checked := lost allBays _ ((defaults_poweredOn s s.store.cutShort).alarm .powerOn none 0)
  unfold startUp
  dsimp only
  split
  · exact checked.alarm _ _ _
  · exact checked

/-- The machine right after reset, its store cleared and good (log 4). -/
theorem reset_poweredOn : PoweredOn State.reset where
  pli := rfl
  nodes _ := Vector.getElem_replicate _
  units := rfl
  waits := rfl
  feeds _ := Vector.getElem_replicate _
  valves _ := Vector.getElem_replicate _
  channels _ := Vector.getElem_replicate _
  bays _ := ⟨{ contents := .cleared, good := true }, Vector.getElem_replicate _⟩
  batches := rfl
  params := rfl
  counts k := by
    rw [reset_alarm_counts]
    split <;> decide

theorem PoweredOn.line {s : State} (h : PoweredOn s) (l : FoamLine) :
    s.line l = { current := none, previous := none, lastNumber := 0 } := by
  unfold State.line
  rw [h.batches]
  exact Vector.getElem_replicate _

theorem PoweredOn.settingsOk {s : State} (h : PoweredOn s) : SettingsOk s := by
  refine ⟨fun n => ?_, h.counts, ?_, ?_, fun l => ?_⟩
  · rw [h.nodes]; decide
  · rw [h.params]; decide
  · rw [h.batches]
    exact (by decide : ∀ k : Fin 20, 1 ≤ defaultExpect[k] ∧ defaultExpect[k] ≤ 9999)
  · simp [h.line]

theorem PoweredOn.weighOk {s : State} (h : PoweredOn s) : WeighOk s := by
  refine fun b => ⟨?_, ?_⟩
  · rw [h.channels]
    simp [Channel.inRange, Channel.initial]
  · obtain ⟨r, e⟩ := h.bays b
    rw [e]
    exact restoreBay_figures r

theorem PoweredOn.lineOk {s : State} (h : PoweredOn s) : LineOk s := by
  rw [lineOk_iff, h.pli]
  exact dropped_sound { } .free

theorem PoweredOn.unitsOk {s : State} (h : PoweredOn s) : UnitsOk s := by simp [UnitsOk, h.units]

theorem PoweredOn.slotsOk {s : State} (h : PoweredOn s) : SlotsOk s := by
  simp [SlotsOk, h.waits, h.pli, h.nodes, Slot.isDeliverable]

/-- Without feeds, entries and current batches nothing is out of phase (R118). -/
theorem PoweredOn.phaseOk {s : State} (h : PoweredOn s) : PhaseOk s := by
  simp [PhaseOk, h.waits, h.feeds, h.line]

theorem PoweredOn.batchesOk {s : State} (h : PoweredOn s) : BatchesOk s := by
  refine ⟨?_, fun l => by simp [h.line]⟩
  rw [h.batches]
  exact (by decide : ∀ k : Fin 20, 1 ≤ defaultExpect[k])

/-- A bay comes back ABSENT or in HOLD (R40). -/
theorem restoreBay_state (r : StoreRec) :
    ((restoreBay r).state = .absent ∨ (restoreBay r).state = .hold) ∧ (restoreBay r).closeWatch = none := by
  unfold restoreBay
  split
  · split <;> simp [Bay.initial]
  · simp [Bay.initial]

/-- Without feeds and entries, every valve closed and every bay at rest, feeds, bays and owners agree. -/
theorem PoweredOn.feedsOk {s : State} (h : PoweredOn s) : FeedsOk s := by
  refine ⟨fun b => ?_, ?_, ?_⟩
  · obtain ⟨r, e⟩ := h.bays b
    obtain ⟨rest, watch⟩ := restoreBay_state r
    rw [← e] at rest watch
    refine ⟨⟨fun _ => ?_, by simp [h.feeds]⟩, ?_, by simp [watch], by simp [h.channels, Channel.initial]⟩
    · obtain rest | rest := rest <;> simp [rest]
    · obtain rest | rest := rest <;> simp [ValveOk, h.valves, rest]
  · simp [OwnersOk, h.feeds, h.waits]
  · simp [InterlockOk, h.feeds, h.waits]

/-- Settles O5: after reset every block is at its power-on value, and that is sound. -/
theorem resetIsSound : Obligations.ResetIsSound :=
  have h := reset_poweredOn
  ⟨h.unitsOk, h.settingsOk, h.weighOk, h.lineOk, h.slotsOk, h.feedsOk, h.phaseOk, h.batchesOk⟩

/-! ### Every step -/

theorem assertReset_registers (s : State) : RegistersOk s (assertReset s) := by
  unfold assertReset
  split
  · exact ⟨id, id, id⟩
  · exact ⟨id, id, fun _ => (lineOk_iff _).mpr (dropped_sound { s.pli with claimHold := none } s.pli.line)⟩

theorem Effect.registers {s t : State} (h : Effect s t) : RegistersOk s t := by
  cases h with
  | running _ acts => exact acts.registers
  | slotReply => exact slotReplySent_registers s
  | records blocks settings =>
    refine ⟨settings, fun ok => ?_, fun ok => ?_⟩
    · simpa only [WeighOk, State.channel, State.bay, blocks.channels, blocks.bays] using ok
    · simpa only [LineOk, blocks.pli] using ok
  | level i _ => exact ⟨id, id, id⟩
  | assertReset => exact assertReset_registers s
  | start inReset =>
    have on := startUp_poweredOn { s with inReset := inReset }
    exact ⟨fun _ => on.settingsOk, fun _ => on.weighOk, fun _ => on.lineOk⟩

/-- Settles O57: each shared operation keeps the registers in range, and of the line's own changes each keeps its
connection and buffer in range. -/
theorem registersStayInRange : Obligations.RegistersStayInRange := by
  intro s t e
  obtain ⟨queue, effect⟩ := step_effect e
  obtain ⟨settings, weighing, line⟩ := effect.registers
  exact ⟨settings, weighing, line⟩

end Sys2Proof.Machine
end

section
namespace Sys2Proof.Machine

/-! ## Feeds, bays, valves, owners and interlocks (R25, R28, R30, R63, R64, R96, R138, R142)

Outside reset, with the gas that may be fed held fixed as a predicate on classes: each shared operation keeps the
agreement, whatever the predicate, and only the interlock's own operations restrict it. -/

/-- A bay agrees with its feed, its valve and its window. -/
abbrev BayOk (s : State) (b : BayIx) : Prop := BayFeed s b ∧ ValveOk s b ∧ CloseOk s b

/-- No FEED_END window is open on a channel. -/
def Channel.unwatched (c : Channel) : Prop := ∀ w ∈ c.window, w.purpose ≠ .feedEnd

/-- Outside reset feeds, bays, valves, owners and entries agree, and gas of class `g` is fed or waited for only where
`G g`. -/
structure Sound (G : GasClass → Prop) (s : State) : Prop where
  running : s.inReset = false
  bays : ∀ b, BayOk s b
  owners : OwnersOk s
  nodup : (s.waits.map (·.node)).Nodup
  slots : ∀ e ∈ s.waits, (s.node e.node).slot ≠ .empty
  waitGas : ∀ e ∈ s.waits, G e.cls
  feedGas : ∀ b : BayIx, ∀ f ∈ s.feed b, f.state = .feeding → G f.cls

theorem sound_of_feedsOk {s : State} (run : s.inReset = false) (slots : SlotsOk s) (feeds : FeedsOk s) :
    Sound (GasFree s) s := by
  obtain ⟨nodup, deferred, -⟩ := slots
  obtain ⟨bays, owners, interlock⟩ := feeds
  obtain ⟨stopped, unpermitted⟩ := interlock run
  refine ⟨run, bays, owners, nodup, fun e he => ?_, fun e he => ⟨?_, fun burns => ?_⟩,
    fun b f hf feeding => ⟨?_, fun burns => ?_⟩⟩
  · rw [(deferred e he).2]
    exact nofun
  · by_contra asserted
    simp [(stopped (by simpa using asserted)).1] at he
  · by_contra off
    simp [(unpermitted (by simpa using off)).1 e he] at burns
  · by_contra asserted
    exact (stopped (by simpa using asserted)).2 b f hf feeding
  · by_contra off
    exact (unpermitted (by simpa using off)).2 b f hf burns feeding

theorem Sound.feedsOk {s : State} (h : Sound (GasFree s) s) : FeedsOk s := by
  refine ⟨h.bays, h.owners, fun _ => ⟨fun asserted => ⟨?_, fun b f hf feeding => ?_⟩,
    fun off => ⟨fun e he => ?_, fun b f hf burns feeding => ?_⟩⟩⟩
  · refine List.eq_nil_iff_forall_not_mem.mpr fun e he => ?_
    simpa [asserted] using (h.waitGas e he).1
  · simpa [asserted] using (h.feedGas b f hf feeding).1
  · by_contra burns
    simpa [off] using (h.waitGas e he).2 (by simpa using burns)
  · simpa [off] using (h.feedGas b f hf feeding).2 burns

/-- The gas that may be fed is given anew. -/
theorem Sound.regas {G G' : GasClass → Prop} {s : State} (h : Sound G s) (waits : ∀ e ∈ s.waits, G e.cls → G' e.cls)
    (feeds : ∀ b : BayIx, ∀ f ∈ s.feed b, f.state = .feeding → G f.cls → G' f.cls) : Sound G' s :=
  ⟨h.running, h.bays, h.owners, h.nodup, h.slots, fun e he => waits e he (h.waitGas e he),
    fun b f hf feeding => feeds b f hf feeding (h.feedGas b f hf feeding)⟩

/-! ### What a bay in a given state holds -/

section

variable {G : GasClass → Prop} {s : State} {b : BayIx}

theorem Sound.idle_feed (h : Sound G s) (idle : (s.bay b).state.idle) : s.feed b = none := by
  obtain ⟨⟨-, held⟩, -, -⟩ := h.bays b
  refine Option.eq_none_iff_forall_not_mem.mpr fun f hf => ?_
  obtain ⟨-, ⟨-, feeding⟩ | ⟨-, closing⟩⟩ := held f hf
  · exact idle.1 feeding
  · exact idle.2 closing

theorem Sound.valve (h : Sound G s) (b : BayIx) : s.valve b = ((s.bay b).state == .feeding) := by
  obtain ⟨-, valve, -⟩ := h.bays b
  rw [valve, h.running]
  rfl

theorem Sound.valve_closed (h : Sound G s) (other : (s.bay b).state ≠ .feeding) : s.valve b = false := by
  simpa [h.valve b] using other

theorem Sound.watch_none (h : Sound G s) (unclosed : (s.bay b).state ≠ .closing) : (s.bay b).closeWatch = none := by
  obtain ⟨-, -, watch, -⟩ := h.bays b
  by_contra running
  exact unclosed (watch running)

theorem Sound.feedEnd (h : Sound G s) {w : Window} (hw : w ∈ (s.channel b).window) (purpose : w.purpose = .feedEnd) :
    (s.bay b).state = .closing ∧ (s.bay b).closeWatch = none ∧ ∀ f ∈ s.feed b, f.booked = false := by
  obtain ⟨-, -, -, window⟩ := h.bays b
  exact window w hw purpose

theorem Sound.unwatched (h : Sound G s) (unclosed : (s.bay b).state ≠ .closing) : (s.channel b).unwatched :=
  fun _ hw purpose => unclosed (h.feedEnd hw purpose).1

theorem Sound.feed_phased (h : Sound G s) {f : Feed} (held : s.feed b = some f) : f.phased ∧
    (f.state = .feeding ∧ (s.bay b).state = .feeding ∨ f.state = .closing ∧ (s.bay b).state = .closing) := by
  obtain ⟨⟨-, phased⟩, -, -⟩ := h.bays b
  exact phased f held

/-- The feed of a CLOSING bay is CLOSING (R30). -/
theorem Sound.feed_closing (h : Sound G s) {f : Feed} (held : s.feed b = some f) (closing : (s.bay b).state = .closing) :
    f.state = .closing := by
  obtain ⟨-, ⟨-, feeding⟩ | ⟨closed, -⟩⟩ := h.feed_phased held
  · rw [closing] at feeding
    exact absurd feeding nofun
  · exact closed

/-- A bay without a feed, at rest. -/
theorem bayOk_idle {t : State} (feed : t.feed b = none) (idle : (t.bay b).state.idle)
    (watch : (t.bay b).closeWatch = none) (valve : t.valve b = false) (window : (t.channel b).unwatched) : BayOk t b := by
  refine ⟨⟨fun _ => idle, by simp [feed]⟩, ?_, fun running => absurd watch running, fun w hw end_ => absurd end_ (window w hw)⟩
  simp [ValveOk, valve, idle.1]

end

/-! ### Changes at some bays -/

/-- From `s` to `t` the plant changes at bays in `P` alone; entries may leave, no slot is emptied, and the interlock
stands. -/
structure Reaches (P : BayIx → Prop) (s t : State) : Prop where
  inReset : t.inReset = s.inReset
  interlock : t.interlock = s.interlock
  bay : ∀ c, ¬P c → t.bay c = s.bay c
  channel : ∀ c, ¬P c → t.channel c = s.channel c
  feed : ∀ c, ¬P c → t.feed c = s.feed c
  valve : ∀ c, ¬P c → t.valve c = s.valve c
  waits : t.waits.Sublist s.waits
  slots : ∀ n, (t.node n).slot = .empty → (s.node n).slot = .empty

section

variable {P : BayIx → Prop} {s t u : State}

theorem Reaches.refl (P : BayIx → Prop) (s : State) : Reaches P s s :=
  ⟨rfl, rfl, fun _ _ => rfl, fun _ _ => rfl, fun _ _ => rfl, fun _ _ => rfl, .refl _, fun _ => id⟩

/-- A change at one bay begins. -/
theorem Reaches.here (b : BayIx) (s : State) : Reaches (· = b) s s := .refl _ s

theorem Reaches.trans (h : Reaches P s t) (k : Reaches P t u) : Reaches P s u where
  inReset := k.inReset.trans h.inReset
  interlock := k.interlock.trans h.interlock
  bay c hc := (k.bay c hc).trans (h.bay c hc)
  channel c hc := (k.channel c hc).trans (h.channel c hc)
  feed c hc := (k.feed c hc).trans (h.feed c hc)
  valve c hc := (k.valve c hc).trans (h.valve c hc)
  waits := k.waits.trans h.waits
  slots n empty := h.slots n (k.slots n empty)

theorem Reaches.setBay (h : Reaches P s t) {b : BayIx} (hb : P b) (r : Bay) : Reaches P s (t.setBay b r) :=
  h.trans { Reaches.refl P t with bay := fun c hc => State.setBay_bay_ne t b r c fun e => hc (e ▸ hb) }

theorem Reaches.setChannel (h : Reaches P s t) {b : BayIx} (hb : P b) (r : Channel) :
    Reaches P s (t.setChannel b r) :=
  h.trans { Reaches.refl P t with channel := fun c hc => State.setChannel_channel_ne t b r c fun e => hc (e ▸ hb) }

theorem Reaches.setFeed (h : Reaches P s t) {b : BayIx} (hb : P b) (r : Option Feed) : Reaches P s (t.setFeed b r) :=
  h.trans { Reaches.refl P t with feed := fun c hc => State.setFeed_feed_ne t b r c fun e => hc (e ▸ hb) }

theorem Reaches.setValve (h : Reaches P s t) {b : BayIx} (hb : P b) (r : Bool) : Reaches P s (t.setValve b r) :=
  h.trans { Reaches.refl P t with valve := fun c hc => State.setValve_valve_ne t b r c fun e => hc (e ▸ hb) }

theorem Reaches.setWaits (h : Reaches P s t) {ws : List WaitEntry} (fewer : ws.Sublist t.waits) :
    Reaches P s (t.setWaits ws) :=
  h.trans { Reaches.refl P t with waits := fewer }

theorem Aside.reaches (a : Aside s t) : Reaches P s t := by
  cases a with
  | records blocks settings =>
    refine ⟨blocks.inReset, blocks.interlock, fun c _ => ?_, fun c _ => ?_, fun c _ => ?_, fun c _ => ?_, ?_, fun n => ?_⟩
    · simp only [State.bay, blocks.bays]
    · simp only [State.channel, blocks.channels]
    · simp only [State.feed, blocks.feeds]
    · simp only [State.valve, blocks.valves]
    · rw [blocks.waits]
    · simp only [State.node, blocks.nodes]
      exact id
  | node n r slot range =>
    refine { Reaches.refl P s with slots := fun m empty => ?_ }
    by_cases e : m = n
    · subst e
      rw [State.setNode_node] at empty
      exact slot empty
    · rwa [State.setNode_node_ne _ _ _ _ e] at empty
  | delivery ns => exact { Reaches.refl P s with }

theorem Reaches.asides (h : Reaches P s t) (k : Asides t u) : Reaches P s u :=
  h.trans (k.relates (R := Reaches P) (.refl P t) fun _ _ h a => h.trans a.reaches)

/-- What changes at bays that agree again, with feeds whose owners have no other, keeps the agreement. -/
theorem Sound.reached {G : GasClass → Prop} (h : Sound G s) (r : Reaches P s t) (bays : ∀ b, P b → BayOk t b)
    (owners : ∀ b, P b → ∀ f ∈ t.feed b, (∀ c, ∀ g ∈ t.feed c, g.owner = f.owner → c = b) ∧
      (∀ e ∈ t.waits, f.owner ≠ e.node) ∧ (f.state = .feeding → G f.cls)) : Sound G t := by
  obtain ⟨single, waiting⟩ := h.owners
  refine ⟨r.inReset.trans h.running, fun b => ?_, ⟨fun b c f hf g hg same => ?_, fun e he b f hf => ?_⟩,
    h.nodup.sublist (r.waits.map _), fun e he empty => h.slots e (r.waits.subset he) (r.slots _ empty),
    fun e he => h.waitGas e (r.waits.subset he), fun b f hf => ?_⟩
  · by_cases hb : P b
    · exact bays b hb
    · have kept := h.bays b
      simpa only [BayOk, BayFeed, ValveOk, CloseOk, r.feed b hb, r.bay b hb, r.valve b hb, r.channel b hb, r.inReset]
        using kept
  · by_cases hb : P b
    · exact ((owners b hb f hf).1 c g hg same.symm).symm
    by_cases hc : P c
    · exact (owners c hc g hg).1 b f hf same
    · rw [r.feed b hb] at hf
      rw [r.feed c hc] at hg
      exact single b c f hf g hg same
  · by_cases hb : P b
    · exact (owners b hb f hf).2.1 e he
    · rw [r.feed b hb] at hf
      exact waiting e (r.waits.subset he) b f hf
  · by_cases hb : P b
    · exact (owners b hb f hf).2.2
    · rw [r.feed b hb] at hf
      exact h.feedGas b f hf

theorem Sound.asides {G : GasClass → Prop} (h : Sound G s) (k : Asides s t) : Sound G t :=
  h.reached ((Reaches.refl (fun _ => False) s).asides k) nofun nofun

/-- A change at one bay whose feed, if any is left, is as before by owner and class, and feeds only where it fed. -/
theorem Sound.changed {G : GasClass → Prop} (h : Sound G s) {b : BayIx} (r : Reaches (· = b) s t) (ok : BayOk t b)
    (feed : ∀ f ∈ t.feed b, ∃ f' ∈ s.feed b, f.owner = f'.owner ∧ f.cls = f'.cls ∧
      (f.state = .feeding → f'.state = .feeding)) : Sound G t := by
  obtain ⟨single, waiting⟩ := h.owners
  refine h.reached r (fun c hc => hc ▸ ok) fun c hc f hf => ?_
  obtain rfl := hc
  obtain ⟨f', held, owner, cls, feeding⟩ := feed f hf
  refine ⟨fun d g hg same => ?_, fun e he => owner ▸ waiting e (r.waits.subset he) c f' held,
    fun now => cls ▸ h.feedGas c f' held (feeding now)⟩
  by_contra other
  rw [r.feed d other] at hg
  exact other (single d c g hg f' held (same.trans owner))

end

end Sys2Proof.Machine
end

section
namespace Sys2Proof.Machine

theorem bookTold_reaches (s : State) (f : Feed) (g : GainResult) : Reaches (fun _ => False) s (s.bookTold f g) :=
  (Reaches.refl _ s).asides (bookTold_asides s f g)

/-- A CLOSING feed keeps its phase whatever is booked. -/
theorem Feed.phased_booked {f f' : Feed} (phased : f.phased) (closing : f.state = .closing) (state : f'.state = f.state)
    (deadline : f'.holdDeadline = f.holdDeadline) (cause : f'.endCause = f.endCause) : f'.phased := by
  obtain ⟨feeding, -⟩ | ⟨-, none, some⟩ := phased
  · rw [closing] at feeding
    exact absurd feeding nofun
  · exact .inr ⟨state.trans closing, deadline.trans none, by rwa [cause]⟩

/-- A settled net is taken into the figures of the bay, and may count an alarm (R61). -/
theorem takeSettledNet_asides (s : State) (b : BayIx) (net : Nat) : ∃ r : Bay, r.state = (s.bay b).state ∧
    r.closeWatch = (s.bay b).closeWatch ∧ Asides (s.setBay b r) (s.takeSettledNet b net) := by
  unfold State.takeSettledNet
  dsimp only
  split
  · exact ⟨{ s.bay b with net := net, book := net, source := .settled, unreconciled := (net : Int) - (s.bay b).book },
      rfl, rfl, (Asides.refl _).alarm _ _ _⟩
  · exact ⟨{ s.bay b with net := net, book := net, source := .settled }, rfl, rfl, .refl _⟩

/-! ### The figures of bays, channels and feeds -/

section

variable {G : GasClass → Prop} {s : State} (h : Sound G s) (b : BayIx)
include h

theorem Sound.figures {r : Bay} (state : r.state = (s.bay b).state) (watch : r.closeWatch = (s.bay b).closeWatch) :
    Sound G (s.setBay b r) := by
  refine h.changed ((Reaches.here b s).setBay rfl r) ?_ fun f hf => ⟨f, hf, rfl, rfl, id⟩
  have kept := h.bays b
  simpa only [BayOk, BayFeed, ValveOk, CloseOk, State.setBay_feed, State.setBay_bay, State.setBay_valve,
    State.setBay_channel, State.setBay_inReset, state, watch] using kept

theorem Sound.restate {r : Bay} (before : (s.bay b).state.idle) (after : r.state.idle) (watch : r.closeWatch = none) :
    Sound G (s.setBay b r) := by
  refine h.changed ((Reaches.here b s).setBay rfl r) (bayOk_idle (h.idle_feed before) ?_ ?_
    (h.valve_closed before.1) (h.unwatched before.2)) fun f hf => ⟨f, hf, rfl, rfl, id⟩
  · rwa [State.setBay_bay]
  · rwa [State.setBay_bay]

theorem Sound.setChannel {r : Channel}
    (purpose : ∀ w ∈ r.window, w.purpose = .feedEnd → (s.bay b).state = .closing ∧ (s.bay b).closeWatch = none ∧
      ∀ f ∈ s.feed b, f.booked = false) : Sound G (s.setChannel b r) := by
  refine h.changed ((Reaches.here b s).setChannel rfl r) ?_ fun f hf => ⟨f, hf, rfl, rfl, id⟩
  obtain ⟨feed, valve, watch, -⟩ := h.bays b
  exact ⟨feed, valve, watch, fun w hw => purpose w (by rwa [State.setChannel_channel] at hw)⟩

/-- A channel record that opens no FEED_END window. -/
theorem Sound.channel {r : Channel}
    (purpose : ∀ w ∈ r.window, w.purpose = .feedEnd → ∃ w' ∈ (s.channel b).window, w'.purpose = .feedEnd) :
    Sound G (s.setChannel b r) := by
  refine h.setChannel b fun w hw feedEnd => ?_
  obtain ⟨w', hw', feedEnd'⟩ := purpose w hw feedEnd
  exact h.feedEnd hw' feedEnd'

/-- A feed in its phase, booked or not where no FEED_END window waits for it. -/
theorem Sound.setFeed {f f' : Feed} (held : s.feed b = some f) (owner : f'.owner = f.owner) (cls : f'.cls = f.cls)
    (state : f'.state = f.state) (phased : f'.phased)
    (booked : f'.booked = f.booked ∨ (s.channel b).unwatched) : Sound G (s.setFeed b (some f')) := by
  refine h.changed ((Reaches.here b s).setFeed rfl _) ?_ fun g hg => ?_
  · obtain ⟨-, valve, watch, -⟩ := h.bays b
    obtain ⟨-, states⟩ := h.feed_phased held
    refine ⟨⟨by simp, fun g hg => ?_⟩, valve, watch, fun w hw feedEnd => ?_⟩
    · obtain rfl := Option.mem_some_iff.mp (State.setFeed_feed s b _ ▸ hg)
      rw [← state] at states
      exact ⟨phased, states⟩
    · obtain ⟨closing, ended, unbooked⟩ := h.feedEnd hw feedEnd
      refine ⟨closing, ended, fun g hg => ?_⟩
      obtain rfl := Option.mem_some_iff.mp (State.setFeed_feed s b _ ▸ hg)
      obtain same | unwatched := booked
      · exact same ▸ unbooked f held
      · exact absurd feedEnd (unwatched w hw)
  · obtain rfl := Option.mem_some_iff.mp (State.setFeed_feed s b _ ▸ hg)
    exact ⟨f, held, owner, cls, fun feeding => state ▸ feeding⟩

/-- The feed place of a bay at rest is empty already. -/
theorem Sound.unfeed (idle : (s.bay b).state.idle) : Sound G (s.setFeed b none) := by
  refine h.changed ((Reaches.here b s).setFeed rfl none) (bayOk_idle (State.setFeed_feed s b none) idle
    (h.watch_none idle.2) (h.valve_closed idle.1) (h.unwatched idle.2)) fun f hf => ?_
  simp at hf

/-- A CLOSING bay is freed: its feed goes and the bay comes to rest, no FEED_END window waiting (R30). -/
theorem Sound.freed {r : Bay} (closing : (s.bay b).state = .closing) (after : r.state.idle) (watch : r.closeWatch = none)
    (window : (s.channel b).unwatched) : Sound G ((s.setFeed b none).setBay b r) := by
  refine h.changed (((Reaches.here b s).setFeed rfl none).setBay rfl r) (bayOk_idle ?_ ?_ ?_
    (h.valve_closed (by simp [closing])) window) fun f hf => ?_
  · rw [State.setBay_feed, State.setFeed_feed]
  · rwa [State.setBay_bay]
  · rwa [State.setBay_bay]
  · simp at hf

/-- A window that is no FEED_END window opens (R53). -/
theorem Sound.openBaseline : Sound G (s.openWindow b .baseline) := by
  refine h.channel b fun w hw feedEnd => ?_
  obtain rfl := Option.mem_some_iff.mp hw
  exact absurd feedEnd nofun

/-- A FEED_END window opens on a CLOSING bay whose watch has ended and whose feed is not booked (R28). -/
theorem Sound.openFeedEnd (closing : (s.bay b).state = .closing) (watch : (s.bay b).closeWatch = none)
    (booked : ∀ f ∈ s.feed b, f.booked = false) : Sound G (s.openWindow b .feedEnd) :=
  h.setChannel b fun _ _ _ => ⟨closing, watch, booked⟩

theorem Sound.enterService (idle : (s.bay b).state.idle) : Sound G (s.enterService b) := by
  have watch := h.watch_none idle.2
  obtain ⟨-, e⟩ | ⟨-, e⟩ := enterService_cases s b <;> rw [e]
  · exact (h.restate b (r := { s.bay b with state := .settling }) idle ⟨nofun, nofun⟩ watch).openBaseline b
  · exact h.restate b (r := { s.bay b with state := .hold }) idle ⟨nofun, nofun⟩ watch

/-! ### Grants and entries (R67, R89, R90, R92, R96) -/

/-- A grant to a node that owns no feed and waits for none, of gas that may be fed (R67). -/
theorem Sound.grant {n : Node} (w : WaitPurpose) {g : GasClass} (unclosed : (s.bay b).state ≠ .closing)
    (free : ∀ c, ∀ f ∈ s.feed c, c ≠ b → f.owner ≠ n) (waits : ∀ e ∈ s.waits, e.node ≠ n) (gas : G g) :
    Sound G (s.grant b n w g) := by
  refine Sound.asides ?_ (grant_asides s b n w g)
  have reaches := (((Reaches.here b s).setFeed rfl (some (s.newFeed b n (s.feedPurpose w) g))).setBay rfl
    { s.bay b with state := .feeding }).setValve rfl true
  refine h.reached reaches (fun c hc => ?_) fun c hc f hf => ?_
  · obtain rfl := hc
    refine ⟨⟨by simp, fun f hf => ?_⟩, ?_, fun running => ?_, fun w hw feedEnd => ?_⟩
    · simp only [State.setValve_feed, State.setBay_feed, State.setFeed_feed, Option.mem_def, Option.some.injEq] at hf
      subst hf
      exact ⟨.inl ⟨rfl, nofun, rfl, rfl⟩, .inl ⟨rfl, by simp⟩⟩
    · simp [ValveOk, h.running]
    · exact absurd (h.watch_none unclosed) (by simpa using running)
    · exact absurd feedEnd (h.unwatched unclosed w hw)
  · obtain rfl := hc
    simp only [State.setValve_feed, State.setBay_feed, State.setFeed_feed, Option.mem_def, Option.some.injEq] at hf
    subst hf
    refine ⟨fun d f' hf' same => ?_, fun e he => (waits e he).symm, fun _ => gas⟩
    by_contra other
    rw [reaches.feed d other] at hf'
    exact free d f' hf' other same

omit b in
theorem Sound.dropEntry (n : Node) : Sound G (s.dropEntry n) :=
  h.reached ((Reaches.refl (fun _ => False) s).setWaits List.filter_sublist) nofun nofun

theorem Sound.scan (unclosed : (s.bay b).state ≠ .closing) : Sound G (s.scan b) := by
  obtain ⟨-, e⟩ | ⟨x, found, e⟩ := scan_cases s b <;> rw [e]
  · exact h
  have waiting := List.mem_of_find?_eq_some found
  refine Sound.asides ?_ (answerEntry_asides _ x .ok _)
  refine (h.dropEntry x.node).grant b x.purpose unclosed (fun c f hf _ => h.owners.2 x waiting c f hf) (fun y hy => ?_)
    (h.waitGas x waiting)
  simpa using (List.mem_filter.mp hy).2

theorem Sound.readyOrFull (idle : (s.bay b).state.idle) : Sound G (s.readyOrFull b) := by
  have watch := h.watch_none idle.2
  obtain ⟨-, e⟩ | ⟨-, e⟩ := readyOrFull_cases s b <;> rw [e]
  · refine (h.restate b (r := { s.bay b with state := .ready }) idle ⟨nofun, nofun⟩ watch).scan b ?_
    rw [State.setBay_bay]
    exact nofun
  · exact (h.restate b (r := { s.bay b with state := .full }) idle ⟨nofun, nofun⟩ watch).asides
      ((Asides.refl _).alarm _ _ _)

omit b in
theorem Sound.endEntry (e : WaitEntry) (st : Status) : Sound G (s.endEntry e st) :=
  (h.dropEntry e.node).asides (endEntry_asides s e st)

omit b in
/-- A node without a feed and with an empty slot joins the list (R89). -/
theorem Sound.wait {n : Node} (tag : Nat) (k : ReqKind) {g : GasClass} (w : WaitPurpose)
    (slot : (s.node n).slot = .empty) (free : ∀ c, ∀ f ∈ s.feed c, f.owner ≠ n) (gas : G g) :
    Sound G (s.joinWait n tag k g w) := by
  obtain ⟨single, waiting⟩ := h.owners
  have absent : ∀ e ∈ s.waits, e.node ≠ n := fun e he same => h.slots e he (same ▸ slot)
  unfold State.joinWait
  refine ⟨h.running, h.bays, ⟨single, fun e he c f hf => ?_⟩, ?_, fun e he => ?_, fun e he => ?_, h.feedGas⟩
  · obtain he | he := List.mem_append.mp he
    · exact waiting e he c f hf
    · rw [List.mem_singleton.mp he]
      exact free c f hf
  · simp only [State.defer, State.setSlot, State.setNode_waits, State.setWaits_waits, List.map_append, List.map_cons,
      List.map_nil]
    refine List.nodup_append.mpr ⟨h.nodup, List.nodup_singleton _, fun m hm m' hm' same => ?_⟩
    obtain ⟨e, he, rfl⟩ := List.mem_map.mp hm
    exact absent e he (same.trans (List.mem_singleton.mp hm'))
  · by_cases same : e.node = n
    · simp [State.defer, State.setSlot, same]
    · obtain he | he := List.mem_append.mp he
      · simpa [State.defer, State.setSlot, State.setNode_node_ne _ _ _ _ same] using h.slots e he
      · exact absurd (List.mem_singleton.mp he ▸ rfl) same
  · obtain he | he := List.mem_append.mp he
    · exact h.waitGas e he
    · rw [List.mem_singleton.mp he]
      exact gas

/-! ### Bookings and the leaving of CLOSING (R30, R59, R81) -/

/-- A CLOSING feed is booked where no FEED_END window waits for it (R59, R81). -/
theorem Sound.bookGain {f f' : Feed} (g : GainResult) (held : s.feed b = some f) (owner : f'.owner = f.owner)
    (cls : f'.cls = f.cls) (state : f'.state = f.state) (phased : ({ f' with booked := true } : Feed).phased)
    (window : (s.channel b).unwatched) : Sound G (s.bookGain b f' g) := by
  have told := bookTold_reaches s f' g
  rw [bookGain_eq_bookTold]
  refine (h.asides (bookTold_asides s f' g)).setFeed b (f := f) ?_ owner cls state phased (.inr ?_)
  · rw [told.feed b id, held]
  · rwa [told.channel b id]

theorem Sound.bookByEstimate (closing : (s.bay b).state = .closing) (window : (s.channel b).unwatched) :
    Sound G (s.bookByEstimate b) := by
  obtain ⟨-, e⟩ | ⟨f, held, -, e⟩ := bookByEstimate_cases s b <;> rw [e]
  · exact h
  · exact (h.figures b (r := { s.bay b with net := f.bookFigure, book := f.bookFigure, source := .estimated }) rfl
      rfl).bookGain b _ held rfl rfl rfl
      (Feed.phased_booked (h.feed_phased held).1 (h.feed_closing held closing) rfl rfl rfl) window

theorem Sound.leaveClosing : Sound G (s.leaveClosing b) := by
  obtain e | ⟨⟨f, held, booked⟩, closing, watch, e⟩ := leaveClosing_cases s b <;> rw [e]
  · exact h
  have window : (s.channel b).unwatched := fun w hw feedEnd => by
    have unbooked := (h.feedEnd hw feedEnd).2.2 f held
    rw [booked] at unbooked
    exact absurd unbooked nofun
  obtain ⟨-, e⟩ | ⟨-, e⟩ := enterService_cases (s.setFeed b none) b <;> rw [e]
  · exact (h.freed b (r := { s.bay b with state := .settling }) closing ⟨nofun, nofun⟩ watch window).openBaseline b
  · exact h.freed b (r := { s.bay b with state := .hold }) closing ⟨nofun, nofun⟩ watch window

/-! ### Readings (R26, R59, R61) -/

theorem Sound.deliverBaseline (gross : Nat) : Sound G (s.deliverBaseline b gross) := by
  unfold State.deliverBaseline
  split
  · next settling =>
    obtain ⟨r, state, watch, netted⟩ := takeSettledNet_asides s b ((s.bay b).settledNet gross)
    have reached : Reaches (fun _ => False) _ _ := (Reaches.refl _ _).asides netted
    refine ((h.figures b state watch).asides netted).readyOrFull b ?_
    rw [reached.bay b id, State.setBay_bay, state, settling]
    exact ⟨nofun, nofun⟩
  · exact h

/-- A CLOSING bay whose feed is weighed is freed and decided READY or FULL (R30). -/
theorem Sound.freeDecided (closing : (s.bay b).state = .closing) (watch : (s.bay b).closeWatch = none)
    (window : (s.channel b).unwatched) : Sound G ((s.setFeed b none).readyOrFull b) := by
  obtain ⟨-, e⟩ | ⟨-, e⟩ := readyOrFull_cases (s.setFeed b none) b <;> rw [e]
  · refine (h.freed b (r := { s.bay b with state := .ready }) closing ⟨nofun, nofun⟩ watch window).scan b ?_
    rw [State.setBay_bay]
    exact nofun
  · exact (h.freed b (r := { s.bay b with state := .full }) closing ⟨nofun, nofun⟩ watch window).asides
      ((Asides.refl _).alarm _ _ _)

/-- A FEED_END reading, its window ended and the close watch confirmed (R30, R59). -/
theorem Sound.deliverFeedEnd (gross : Nat) (unstable : Bool) (watch : (s.bay b).closeWatch = none)
    (window : (s.channel b).unwatched) : Sound G (s.deliverFeedEnd b gross unstable) := by
  unfold State.deliverFeedEnd
  split
  · exact h
  next f held =>
  split
  · exact h
  next unsettled =>
  dsimp only
  have closing : (s.bay b).state = .closing := by
    by_contra other
    exact unsettled (.inr other)
  obtain ⟨r, state, watch', netted⟩ := takeSettledNet_asides s b ((s.bay b).settledNet gross)
  generalize s.takeSettledNet b ((s.bay b).settledNet gross) = t at netted
  have alarmed : Asides (s.setBay b r) (if (weighedGain f.startNet ((s.bay b).settledNet gross) unstable).clampedNegative
      then t.alarm .negativeGain (some b.val) else t) := by
    split
    · exact netted.alarm _ _ _
    · exact netted
  generalize (if (weighedGain f.startNet ((s.bay b).settledNet gross) unstable).clampedNegative
    then t.alarm .negativeGain (some b.val) else t) = u at alarmed
  have reached : Reaches (fun _ => False) (s.setBay b r) u := (Reaches.refl _ _).asides alarmed
  have bay : u.bay b = r := by rw [reached.bay b id, State.setBay_bay]
  have unwatched : (u.channel b).unwatched := by rwa [reached.channel b id, State.setBay_channel]
  have booked := ((h.figures b state watch').asides alarmed).bookGain b (f := f) (f' := f)
    (weighedGain f.startNet ((s.bay b).settledNet gross) unstable) ((reached.feed b id).trans held) rfl rfl rfl
    (Feed.phased_booked (h.feed_phased held).1 (h.feed_closing held closing) rfl rfl rfl) unwatched
  have told := bookTold_reaches u f (weighedGain f.startNet ((s.bay b).settledNet gross) unstable)
  rw [bookGain_eq_bookTold] at booked ⊢
  refine booked.freeDecided b ?_ ?_ ?_
  · rw [State.setFeed_bay, told.bay b id, bay, state, closing]
  · rw [State.setFeed_bay, told.bay b id, bay, watch', watch]
  · rwa [State.setFeed_channel, told.channel b id]

/-- A reading taken from the window of a channel is delivered by its purpose (R59). -/
theorem Sound.reading {w : Window} (gross : Nat) (unstable : Bool) (window : w ∈ (s.channel b).window) :
    Sound G ((s.windowEnded b unstable).deliverReading b w.purpose gross unstable) := by
  have ended : Asides (s.setChannel b { s.channel b with window := none }) (s.windowEnded b unstable) := by
    unfold State.windowEnded
    dsimp only
    split
    · exact (Asides.refl _).alarm _ _ _
    · exact .refl _
  have reached : Reaches (fun _ => False) _ (s.windowEnded b unstable) := (Reaches.refl _ _).asides ended
  have sound : Sound G (s.windowEnded b unstable) := (h.channel b (by simp)).asides ended
  cases purpose : w.purpose with
  | baseline => exact sound.deliverBaseline b gross
  | feedEnd =>
    refine sound.deliverFeedEnd b gross unstable ?_ ?_
    · rw [reached.bay b id]
      exact (h.feedEnd window purpose).2.1
    · rw [reached.channel b id, State.setChannel_channel]
      simp [Channel.unwatched]
  | zeroCapture => exact sound

/-! ### The close watch (R28, R29, R30, R37) -/

/-- The close watch of a CLOSING bay ends. -/
theorem Sound.endWatch (closing : (s.bay b).state = .closing) :
    Sound G (s.setBay b { s.bay b with closeWatch := none }) := by
  refine h.changed ((Reaches.here b s).setBay rfl _) ?_ fun f hf => ⟨f, hf, rfl, rfl, id⟩
  obtain ⟨feed, valve, -, window⟩ := h.bays b
  refine ⟨by simpa [BayFeed] using feed, by simpa [ValveOk] using valve, by simp, fun w hw feedEnd => ?_⟩
  obtain ⟨-, -, unbooked⟩ := window w hw feedEnd
  exact ⟨by simpa using closing, by simp, unbooked⟩

theorem Sound.confirmClose (closing : (s.bay b).state = .closing) : Sound G (s.confirmClose b) := by
  have ended := h.endWatch b closing
  unfold State.confirmClose
  dsimp only
  split
  · exact ended
  next f held =>
  split
  · exact ended.leaveClosing b
  next unbooked =>
  split
  · refine ended.openFeedEnd b (by simpa using closing) (by simp) fun g hg => ?_
    obtain rfl := Option.some.inj (held.symm.trans hg)
    simpa using unbooked
  · exact ended

omit h in
/-- The bay, the channel and the valve after a booking by estimate; its feed place is not looked at (R81). -/
theorem bookByEstimate_reaches (s : State) (b : BayIx) : Reaches (· = b) s (s.bookByEstimate b) ∧
    ((s.bookByEstimate b).bay b).state = (s.bay b).state ∧
    ((s.bookByEstimate b).bay b).closeWatch = (s.bay b).closeWatch ∧
    (s.bookByEstimate b).channel b = s.channel b ∧ (s.bookByEstimate b).valve b = s.valve b := by
  obtain ⟨-, e⟩ | ⟨f, held, -, e⟩ := bookByEstimate_cases s b <;> rw [e]
  · exact ⟨.here b s, rfl, rfl, rfl, rfl⟩
  rw [bookGain_eq_bookTold]
  have figured := (Reaches.here b s).setBay rfl
    { s.bay b with net := f.bookFigure, book := f.bookFigure, source := .estimated }
  have told := bookTold_reaches (s.setBay b { s.bay b with net := f.bookFigure, book := f.bookFigure, source := .estimated })
    { f with weightKept := false } (estimatedGain f.estimate)
  refine ⟨(figured.asides (bookTold_asides _ _ _)).setFeed rfl _, ?_, ?_, ?_, ?_⟩
  · rw [State.setFeed_bay, told.bay b id, State.setBay_bay]
  · rw [State.setFeed_bay, told.bay b id, State.setBay_bay]
  · rw [State.setFeed_channel, told.channel b id, State.setBay_channel]
  · rw [State.setFeed_valve, told.valve b id, State.setBay_valve]

theorem Sound.expireClose (watch : (s.bay b).closeWatch ≠ none) : Sound G (s.expireClose b) := by
  have closing : (s.bay b).state = .closing := by
    obtain ⟨-, -, closing, -⟩ := h.bays b
    exact closing watch
  have window : (s.channel b).unwatched := fun w hw feedEnd => watch (h.feedEnd hw feedEnd).2.1
  have failed := ((Reaches.here b s).setBay rfl { s.bay b with state := .fault, closeWatch := none }).asides
    ((Asides.refl _).alarm .valveFault (some b.val) 0)
  obtain ⟨reached, state, ended, channel, valve⟩ := bookByEstimate_reaches
    ((s.setBay b { s.bay b with state := .fault, closeWatch := none }).alarm .valveFault (some b.val)) b
  unfold State.expireClose
  refine h.changed ((failed.trans reached).setFeed rfl none) (bayOk_idle ?_ ?_ ?_ ?_ ?_) fun f hf => ?_
  · exact State.setFeed_feed _ b none
  · rw [State.setFeed_bay, state]
    simp [BayState.idle]
  · rw [State.setFeed_bay, ended]
    simp
  · rw [State.setFeed_valve, valve]
    exact h.valve_closed (by simp [closing])
  · rwa [State.setFeed_channel, channel]
  · dsimp only at hf
    rw [State.setFeed_feed] at hf
    exact absurd hf nofun

end

end Sys2Proof.Machine
end

section
namespace Sys2Proof.Machine

/-! ### Ends of feeds (R74, R138, R142) -/

/-- The bay of a feed that has just ended is CLOSING, its valve commanded closed (R28, R74). -/
theorem feedEnded_asides (s : State) (b : BayIx) (f : Feed) (c : EndCause) :
    Asides (((s.setFeed b (some (f.ended c))).setValve b false).setBay b { s.bay b with
      state := .closing, closeWatch := if s.switch b then none else some (s.now + 2000) }) (s.feedEnded b f c) :=
  endTold_asides _ f.purpose f.owner c

theorem feedEnded_reaches (s : State) (b : BayIx) (f : Feed) (c : EndCause) : Reaches (· = b) s (s.feedEnded b f c) :=
  ((((Reaches.here b s).setFeed rfl _).setValve rfl false).setBay rfl _).asides (feedEnded_asides s b f c)

theorem feedEnded_at (s : State) (b : BayIx) (f : Feed) (c : EndCause) : ((s.feedEnded b f c).bay b).state = .closing ∧
    (s.feedEnded b f c).feed b = some (f.ended c) ∧ (s.feedEnded b f c).channel b = s.channel b := by
  have told : Reaches (fun _ => False) _ (s.feedEnded b f c) := (Reaches.refl _ _).asides (feedEnded_asides s b f c)
  refine ⟨?_, ?_, ?_⟩
  · rw [told.bay b id, State.setBay_bay]
  · rw [told.feed b id, State.setBay_feed, State.setValve_feed, State.setFeed_feed]
  · rw [told.channel b id]
    rfl

theorem leaveClosing_reaches (s : State) (b : BayIx) : Reaches (· = b) s (s.leaveClosing b) ∧
    ((s.bay b).state ≠ .feeding → ((s.leaveClosing b).bay b).state ≠ .feeding) := by
  obtain e | ⟨-, -, -, e⟩ := leaveClosing_cases s b <;> rw [e]
  · exact ⟨.here b s, id⟩
  have freed := (Reaches.here b s).setFeed rfl none
  obtain ⟨-, e⟩ | ⟨-, e⟩ := enterService_cases (s.setFeed b none) b <;> rw [e]
  · refine ⟨(freed.setBay rfl _).setChannel rfl _, fun _ => ?_⟩
    rw [openWindow_spec, State.setChannel_bay, State.setBay_bay]
    exact nofun
  · refine ⟨freed.setBay rfl _, fun _ => ?_⟩
    rw [State.setBay_bay]
    exact nofun

theorem endFeed_reaches (s : State) (b : BayIx) (c : EndCause) : Reaches (· = b) s (s.endFeed b c) := by
  obtain ⟨-, e⟩ | ⟨f, -, -, ended⟩ := endFeed_cases s b c
  · rw [e]
    exact .here b s
  have told := feedEnded_reaches s b f c
  obtain ⟨-, -, e⟩ | ⟨-, e⟩ | e := ended <;> rw [e]
  · exact told.setChannel rfl _
  · exact told
  · exact (told.trans (bookByEstimate_reaches _ b).1).trans (leaveClosing_reaches _ b).1

section

variable {G : GasClass → Prop} {s : State} (h : Sound G s)
include h

theorem Sound.feedEnded {b : BayIx} {f : Feed} (c : EndCause) (held : s.feed b = some f) (feeding : f.state = .feeding) :
    Sound G (s.feedEnded b f c) := by
  have bay : (s.bay b).state = .feeding := by
    obtain ⟨-, ⟨-, bay⟩ | ⟨closing, -⟩⟩ := h.feed_phased held
    · exact bay
    · rw [feeding] at closing
      exact absurd closing nofun
  refine Sound.asides ?_ (feedEnded_asides s b f c)
  refine h.changed ((((Reaches.here b s).setFeed rfl _).setValve rfl false).setBay rfl _) ?_ fun g hg => ?_
  · refine ⟨⟨by simp, fun g hg => ?_⟩, ?_, fun _ => by simp, fun w hw feedEnd => ?_⟩
    · simp only [State.setBay_feed, State.setValve_feed, State.setFeed_feed, Option.mem_def, Option.some.injEq] at hg
      subst hg
      exact ⟨.inr ⟨rfl, rfl, nofun⟩, .inr ⟨rfl, by simp⟩⟩
    · simp [ValveOk]
    · exact absurd feedEnd (h.unwatched (by simp [bay]) w hw)
  · simp only [State.setBay_feed, State.setValve_feed, State.setFeed_feed, Option.mem_def, Option.some.injEq] at hg
    subst hg
    exact ⟨f, held, rfl, rfl, nofun⟩

theorem Sound.endFeed (b : BayIx) (c : EndCause) : Sound G (s.endFeed b c) := by
  obtain ⟨-, e⟩ | ⟨f, held, feeding, ended⟩ := endFeed_cases s b c
  · rwa [e]
  have told := h.feedEnded c held feeding
  obtain ⟨closing, feed, channel⟩ := feedEnded_at s b f c
  have bay : (s.bay b).state ≠ .closing := fun closed => by
    rw [h.feed_closing held closed] at feeding
    exact absurd feeding nofun
  obtain ⟨-, watch, e⟩ | ⟨-, e⟩ | e := ended <;> rw [e]
  · refine told.openFeedEnd b closing watch fun g hg => ?_
    obtain rfl := Option.some.inj (feed.symm.trans hg)
    obtain ⟨-, -, -, unbooked⟩ | ⟨closed, -⟩ := (h.feed_phased held).1
    · exact unbooked
    · rw [feeding] at closed
      exact absurd closed nofun
  · exact told
  · refine (told.bookByEstimate b closing ?_).leaveClosing b
    rw [channel]
    exact h.unwatched bay

/-- A bay whose feed has been ended feeds no more (R74). -/
theorem Sound.endFeed_stopped (b : BayIx) (c : EndCause) : ∀ f ∈ (s.endFeed b c).feed b, f.state ≠ .feeding := by
  intro f held feeding
  obtain ⟨still, e⟩ | ⟨g, -, -, ended⟩ := endFeed_cases s b c
  · rw [e] at held
    exact still f held feeding
  have closed : ((s.feedEnded b g c).bay b).state ≠ .feeding := by
    rw [(feedEnded_at s b g c).1]
    exact nofun
  have stopped : ((s.endFeed b c).bay b).state ≠ .feeding := by
    obtain ⟨-, -, e⟩ | ⟨-, e⟩ | e := ended <;> rw [e]
    · exact closed
    · exact closed
    · refine (leaveClosing_reaches _ b).2 ?_
      rw [(bookByEstimate_reaches _ b).2.1]
      exact closed
  obtain ⟨-, ⟨-, bay⟩ | ⟨closing, -⟩⟩ := (h.endFeed b c).feed_phased held
  · exact stopped bay
  · rw [feeding] at closing
    exact absurd closing nofun

end

/-! #### Every feed of a class, every entry of a kind -/

theorem mem_allBays (b : BayIx) : b ∈ allBays := by
  revert b
  decide

theorem mem_allNodes (n : Node) : n ∈ allNodes := by
  revert n
  decide

/-- A node without a bay owns no feed (R63). -/
theorem ownedBay_eq_none {s : State} {n : Node} (free : s.ownedBay n = none) : ∀ b, ∀ f ∈ s.feed b, f.owner ≠ n := by
  intro b f held
  have found := List.find?_eq_none.mp free b (mem_allBays b)
  rw [Option.mem_def.mp held] at found
  simpa using found

theorem ownedFeed_eq_none {s : State} {n : Node} (free : s.ownedFeed n = none) : ∀ b, ∀ f ∈ s.feed b, f.owner ≠ n := by
  refine ownedBay_eq_none ?_
  unfold State.ownedFeed at free
  split at free
  · next none => exact none
  · next b found =>
    have owned := List.find?_some found
    rw [Option.map_eq_none_iff.mp free] at owned
    exact absurd owned nofun

theorem ownedFeed_eq_some {s : State} {n : Node} {b : BayIx} {f : Feed} (owned : s.ownedFeed n = some (b, f)) :
    s.feed b = some f ∧ f.owner = n := by
  unfold State.ownedFeed at owned
  split at owned
  · exact absurd owned nofun
  · next c found =>
    obtain ⟨g, held, same⟩ := Option.map_eq_some_iff.mp owned
    obtain ⟨rfl, rfl⟩ := Prod.mk.inj same
    have own := List.find?_some found
    rw [held] at own
    exact ⟨held, by simpa using own⟩

/-- The feed of a node is ended where its class is picked (R138, R142). -/
def State.endOwned (which : GasClass → Bool) (c : EndCause) (s : State) (n : Node) : State :=
  match s.ownedFeed n with
  | some (b, f) => if which f.cls then s.endFeed b c else s
  | none => s

theorem endFeeds_eq (s : State) (which : GasClass → Bool) (c : EndCause) :
    s.endFeeds which c = allNodes.foldl (State.endOwned which c) s := rfl

/-- No feed in FEEDING is left to a node whose feeds of the class have been ended; no other begins. -/
theorem Sound.endOwned {G : GasClass → Prop} {s : State} (h : Sound G s) (which : GasClass → Bool) (c : EndCause)
    (n : Node) : Sound G (s.endOwned which c n) ∧
      ∀ b, ∀ f ∈ (s.endOwned which c n).feed b, f.state = .feeding → f ∈ s.feed b ∧ (f.owner = n → which f.cls = false) := by
  unfold State.endOwned
  split
  · next b f owned =>
    obtain ⟨held, owner⟩ := ownedFeed_eq_some owned
    split
    · next picked =>
      refine ⟨h.endFeed b c, fun d g hg feeding => ?_⟩
      have other : d ≠ b := by
        rintro rfl
        exact h.endFeed_stopped d c g hg feeding
      rw [(endFeed_reaches s b c).feed d other] at hg
      exact ⟨hg, fun same => absurd (h.owners.1 d b g hg f held (same.trans owner.symm)) other⟩
    · next unpicked =>
      refine ⟨h, fun d g hg _ => ⟨hg, fun same => ?_⟩⟩
      obtain rfl := h.owners.1 d b g hg f held (same.trans owner.symm)
      obtain rfl := Option.some.inj (held.symm.trans hg)
      simpa using unpicked
  · next none =>
    exact ⟨h, fun d g hg _ => ⟨hg, fun same => absurd same (ownedFeed_eq_none none d g hg)⟩⟩

theorem Sound.endOwneds {G : GasClass → Prop} (which : GasClass → Bool) (c : EndCause) (ns : List Node) {s : State}
    (h : Sound G s) : Sound G (ns.foldl (State.endOwned which c) s) ∧
      ∀ b, ∀ f ∈ (ns.foldl (State.endOwned which c) s).feed b, f.state = .feeding →
        f ∈ s.feed b ∧ (f.owner ∈ ns → which f.cls = false) := by
  induction ns generalizing s with
  | nil => exact ⟨h, fun b f hf _ => ⟨hf, nofun⟩⟩
  | cons n rest ih =>
    obtain ⟨sound, first⟩ := h.endOwned which c n
    obtain ⟨sound', others⟩ := ih sound
    refine ⟨sound', fun b f hf feeding => ?_⟩
    obtain ⟨hf', unpicked⟩ := others b f hf feeding
    obtain ⟨held, unpicked'⟩ := first b f hf' feeding
    refine ⟨held, fun owner => ?_⟩
    obtain same | later := List.mem_cons.mp owner
    · exact unpicked' same
    · exact unpicked later

/-- After the end of the feeds of a class none of it is fed (R138, R142). -/
theorem Sound.endFeeds {G : GasClass → Prop} {s : State} (h : Sound G s) (which : GasClass → Bool) (c : EndCause) :
    Sound G (s.endFeeds which c) ∧
      ∀ b, ∀ f ∈ (s.endFeeds which c).feed b, f.state = .feeding → which f.cls = false := by
  rw [endFeeds_eq]
  obtain ⟨sound, unpicked⟩ := h.endOwneds which c allNodes
  exact ⟨sound, fun b f hf feeding => (unpicked b f hf feeding).2 (mem_allNodes f.owner)⟩

/-- The entry of a node is ended where it is picked (R96). -/
def State.purgeOwned (which : WaitEntry → Bool) (st : Status) (s : State) (n : Node) : State :=
  match s.entry n with
  | some e => if which e then s.endEntry e st else s
  | none => s

theorem purge_eq (s : State) (which : WaitEntry → Bool) (st : Status) :
    s.purge which st = allNodes.foldl (State.purgeOwned which st) s := rfl

theorem endEntry_reaches (s : State) (e : WaitEntry) (st : Status) : Reaches (fun _ => False) s (s.endEntry e st) :=
  ((Reaches.refl _ s).setWaits List.filter_sublist).asides (endEntry_asides s e st)

theorem endEntry_gone {s : State} {e x : WaitEntry} (st : Status) (hx : x ∈ (s.endEntry e st).waits) : x.node ≠ e.node := by
  have told : Reaches (fun _ => False) _ (s.endEntry e st) := (Reaches.refl _ _).asides (endEntry_asides s e st)
  simpa using (List.mem_filter.mp (told.waits.subset hx)).2

/-- An entry of a node whose entries of the kind have been ended is none of them. -/
theorem Sound.purgeOwned {G : GasClass → Prop} {s : State} (h : Sound G s) (which : WaitEntry → Bool) (st : Status)
    (n : Node) : Sound G (s.purgeOwned which st n) ∧ Reaches (fun _ => False) s (s.purgeOwned which st n) ∧
      ∀ e ∈ (s.purgeOwned which st n).waits, e.node = n → which e = false := by
  unfold State.purgeOwned
  split
  · next e found =>
    have node : e.node = n := by simpa using List.find?_some found
    have waiting := List.mem_of_find?_eq_some found
    split
    · exact ⟨h.endEntry e st, endEntry_reaches s e st,
        fun x hx same => absurd (same.trans node.symm) (endEntry_gone st hx)⟩
    · next unpicked =>
      refine ⟨h, .refl _ s, fun x hx same => ?_⟩
      obtain rfl := List.inj_on_of_nodup_map h.nodup hx waiting (same.trans node.symm)
      simpa using unpicked
  · next none =>
    exact ⟨h, .refl _ s, fun x hx same => absurd same (by simpa using List.find?_eq_none.mp none x hx)⟩

theorem Sound.purgeOwneds {G : GasClass → Prop} (which : WaitEntry → Bool) (st : Status) (ns : List Node) {s : State}
    (h : Sound G s) : Sound G (ns.foldl (State.purgeOwned which st) s) ∧
      Reaches (fun _ => False) s (ns.foldl (State.purgeOwned which st) s) ∧
      ∀ e ∈ (ns.foldl (State.purgeOwned which st) s).waits, e.node ∈ ns → which e = false := by
  induction ns generalizing s with
  | nil => exact ⟨h, .refl _ s, fun e _ => nofun⟩
  | cons n rest ih =>
    obtain ⟨sound, reached, first⟩ := h.purgeOwned which st n
    obtain ⟨sound', reached', others⟩ := ih sound
    refine ⟨sound', reached.trans reached', fun e he node => ?_⟩
    obtain same | later := List.mem_cons.mp node
    · exact first e (reached'.waits.subset he) same
    · exact others e he later

/-- After the purge of the entries of a kind none of it waits, and the feeds stand (R96). -/
theorem Sound.purge {G : GasClass → Prop} {s : State} (h : Sound G s) (which : WaitEntry → Bool) (st : Status) :
    Sound G (s.purge which st) ∧ Reaches (fun _ => False) s (s.purge which st) ∧
      ∀ e ∈ (s.purge which st).waits, which e = false := by
  rw [purge_eq]
  obtain ⟨sound, reached, unpicked⟩ := h.purgeOwneds which st allNodes
  exact ⟨sound, reached, fun e he => unpicked e he (mem_allNodes e.node)⟩

/-- Where the feeds and the entries of some classes have been ended, gas of the other classes alone is fed and waited
for (R138, R142). -/
theorem Sound.cleared {G : GasClass → Prop} {s : State} (h : Sound G s) (which : GasClass → Bool) (c : EndCause)
    (st : Status) : Sound (fun g => G g ∧ which g = false) ((s.endFeeds which c).purge (fun e => which e.cls) st) := by
  obtain ⟨sound, fed⟩ := h.endFeeds which c
  obtain ⟨sound', reached, waiting⟩ := sound.purge (fun e => which e.cls) st
  have stands (b : BayIx) := reached.feed b id
  generalize (s.endFeeds which c).purge (fun e => which e.cls) st = t at sound' waiting stands
  exact sound'.regas (fun e he gas => ⟨gas, waiting e he⟩) fun b f hf feeding gas =>
    ⟨gas, fed b f (stands b ▸ hf) feeding⟩

theorem Sound.setInterlock {s : State} (h : Sound (GasFree s) s) (i : Interlock) (estop : i.estop = s.interlock.estop) :
    Sound (GasFree (s.setInterlock i)) (s.setInterlock i) := by
  have written : Sound (GasFree s) { s with interlock := i } :=
    ⟨h.running, h.bays, h.owners, h.nodup, h.slots, h.waitGas, h.feedGas⟩
  unfold State.setInterlock
  dsimp only
  split
  · have dropped := (written.cleared flammable .interlock .permitOff).asides ((Asides.refl _).alarm .permitDropped none 0)
    have base := ((endFeeds_base { s with interlock := i } flammable .interlock).trans
      (purge_base _ (fun e => flammable e.cls) .permitOff)).trans (alarm_base _ .permitDropped none 0)
    obtain ⟨-, -, -, -, -, interlock, -⟩ := base
    have free (g : GasClass) : GasFree s g ∧ flammable g = false → GasFree (State.dropPermit { s with interlock := i }) g := by
      rintro ⟨⟨clear, -⟩, inert⟩
      refine ⟨?_, fun burns => ?_⟩
      · rw [State.dropPermit, interlock]
        exact estop.trans clear
      · rw [inert] at burns
        exact absurd burns nofun
    exact dropped.regas (fun e _ => free e.cls) fun b f _ _ => free f.cls
  · next stands =>
    have free (g : GasClass) : GasFree s g → GasFree { s with interlock := i } g := by
      rintro ⟨clear, permit⟩
      refine ⟨estop.trans clear, fun burns => ?_⟩
      simpa [permit burns] using stands
    exact written.regas (fun e _ => free e.cls) fun b f _ _ => free f.cls

theorem Sound.assertEstop {s : State} (h : Sound (GasFree s) s) : Sound (GasFree (assertEstop s)) (assertEstop s) := by
  have written : Sound (GasFree s) { s with interlock := { s.interlock with estop := true } } :=
    ⟨h.running, h.bays, h.owners, h.nodup, h.slots, h.waitGas, h.feedGas⟩
  unfold Machine.assertEstop
  split
  · exact h
  · have stopped := (written.cleared (fun _ => true) .estop .estop).asides ((Asides.refl _).alarm .estopOn none 0)
    exact stopped.regas (fun _ _ none => absurd none.2 nofun) fun _ _ _ _ none => absurd none.2 nofun

/-! ### Every act, every step -/

theorem sound_interlock {s t : State} (interlock : t.interlock = s.interlock) (h : Sound (GasFree s) t) :
    Sound (GasFree t) t := by
  have same (g : GasClass) : GasFree s g → GasFree t g := by
    simp only [GasFree, State.permitOn, interlock]
    exact id
  exact h.regas (fun e _ => same e.cls) fun b f _ _ => same f.cls

theorem windowEnded_base (s : State) (b : BayIx) (unstable : Bool) : SameBase s (s.windowEnded b unstable) := by
  unfold State.windowEnded
  dsimp only
  split
  · exact (setChannel_base s b _).trans (alarm_base _ _ _ _)
  · exact setChannel_base s b _

theorem SameBase.interlock {s t : State} (h : SameBase s t) : t.interlock = s.interlock := by
  obtain ⟨-, -, -, -, -, interlock, -⟩ := h
  exact interlock

theorem Act.sound {s t : State} (a : Act s t) (h : Sound (GasFree s) s) : Sound (GasFree t) t := by
  cases a with
  | aside a =>
    have chain := (Asides.refl s).act a
    exact sound_interlock ((Reaches.refl (fun _ => False) s).asides chain).interlock (h.asides chain)
  | figures b r state watch range => exact sound_interlock (s := s) rfl (h.figures b state watch)
  | restate b r before after watch range =>
    refine sound_interlock (s := s) rfl (h.restate b before after ?_)
    obtain same | none := watch
    · exact same.trans (h.watch_none before.2)
    · exact none
  | unfeed b idle => exact sound_interlock (s := s) rfl (h.unfeed b idle)
  | channel b r purpose range => exact sound_interlock (s := s) rfl (h.channel b purpose)
  | feed b f f' held owner cls state booked phased =>
    exact sound_interlock (s := s) rfl
      (h.setFeed b held owner cls state (phased (h.feed_phased held).1) (.inl booked))
  | wait n tag k g w slot free gas =>
    exact sound_interlock (s := s) rfl (h.wait tag k w slot (ownedBay_eq_none free) gas)
  | grant b n w g ready slot free gas =>
    refine sound_interlock (grant_base s b n w g).interlock (h.grant b w (by simp [ready])
      (fun c f hf _ => ownedBay_eq_none free c f hf) (fun e he same => h.slots e he (same ▸ slot)) gas)
  | scan b unclosed => exact sound_interlock (scan_base s b).interlock (h.scan b unclosed)
  | leave e st => exact sound_interlock (endEntry_base s e st).interlock (h.endEntry e st)
  | service b idle => exact sound_interlock (enterService_base s b).interlock (h.enterService b idle)
  | endFeed b c => exact sound_interlock (endFeed_base s b c).interlock (h.endFeed b c)
  | bookLoss b closing window =>
    exact sound_interlock (bookByEstimate_base s b).interlock (h.bookByEstimate b closing (by simp [Channel.unwatched, window]))
  | leaveClosing b => exact sound_interlock (leaveClosing_base s b).interlock (h.leaveClosing b)
  | reading b w gross unstable window range =>
    have delivered : SameBase (s.windowEnded b unstable)
        ((s.windowEnded b unstable).deliverReading b w.purpose gross unstable) := by
      unfold State.deliverReading
      split
      · exact deliverBaseline_base _ b gross
      · exact deliverFeedEnd_base _ b gross unstable
      · exact .refl _
    exact sound_interlock ((windowEnded_base s b unstable).trans delivered).interlock (h.reading b gross unstable window)
  | confirm b closing watch =>
    have confirmed : SameBase s (s.confirmClose b) := by
      unfold State.confirmClose
      dsimp only
      split
      · exact setBay_base s b _
      split
      · exact (setBay_base s b _).trans (leaveClosing_base _ b)
      split
      · exact (setBay_base s b _).trans (openWindow_base _ b _)
      · exact setBay_base s b _
    exact sound_interlock confirmed.interlock (h.confirmClose b closing)
  | expire b watch =>
    have expired : SameBase s (s.expireClose b) :=
      (((setBay_base s b { s.bay b with state := .fault, closeWatch := none }).trans
        (alarm_base _ .valveFault (some b.val) 0)).trans (bookByEstimate_base _ b)).trans (setFeed_base _ b none)
    exact sound_interlock expired.interlock (h.expireClose b watch)
  | interlock i estop => exact h.setInterlock i estop
  | estop => exact h.assertEstop

/-- The plant line reaches none of it. -/
theorem Sound.setPli {G : GasClass → Prop} {s : State} (h : Sound G s) (p : Pli) : Sound G (s.setPli p) :=
  ⟨h.running, h.bays, h.owners, h.nodup, h.slots, h.waitGas, h.feedGas⟩

theorem slotReplySent_feedsOk {s : State} (h : FeedsOk s) : FeedsOk (slotReplySent s) := by
  unfold slotReplySent
  split
  · exact h
  · exact h

/-- Under reset every valve is closed, and the interlocks ask nothing (R146). -/
theorem assertReset_feedsOk {s : State} (h : FeedsOk s) : FeedsOk (assertReset s) := by
  unfold assertReset
  split
  · exact h
  obtain ⟨bays, owners, -⟩ := h
  refine ⟨fun b => ?_, owners, nofun⟩
  obtain ⟨feed, -, close⟩ := bays b
  exact ⟨feed, by simp [ValveOk, State.valve], close⟩

theorem level_feedsOk {s : State} (i : Interlock) (h : s.inReset = true ∨ i = { s.interlock with estop := false })
    (ok : FeedsOk s) : FeedsOk { s with interlock := i } := by
  obtain ⟨bays, owners, interlock⟩ := ok
  refine ⟨bays, owners, fun run => ?_⟩
  obtain held | rfl := h
  · exact absurd (held.symm.trans run) nofun
  · exact ⟨nofun, (interlock run).2⟩

theorem Effect.feedsOk {s t : State} (e : Effect s t) (slots : SlotsOk s) (ok : FeedsOk s) : FeedsOk t := by
  cases e with
  | running run acts =>
    exact (acts.keeps (P := fun s => Sound (GasFree s) s) (fun _ _ a h => a.sound h)
      (fun _ p _ h => h.setPli p) (sound_of_feedsOk run slots ok)).feedsOk
  | slotReply => exact slotReplySent_feedsOk ok
  | records blocks settings =>
    simpa only [FeedsOk, BayFeed, ValveOk, CloseOk, OwnersOk, InterlockOk, State.feed, State.bay, State.valve,
      State.channel, State.permitOn, blocks.inReset, blocks.bays, blocks.channels, blocks.feeds, blocks.valves,
      blocks.waits, blocks.interlock] using ok
  | level i h => exact level_feedsOk i h ok
  | assertReset => exact assertReset_feedsOk ok
  | start inReset => exact (startUp_poweredOn _).feedsOk

/-- Settles O59: outside reset every shared operation keeps feeds, bays, valves, owners and entries in agreement for the
gas that may be fed; a drop of the permit and the E-stop end what may not. Under reset and over a start it is read off. -/
theorem feedsStaySound : Obligations.FeedsStaySound := by
  intro s t slots feeds e
  obtain ⟨queue, effect⟩ := step_effect e
  exact effect.feedsOk slots feeds

end Sys2Proof.Machine
end

section
namespace Sys2Proof.Machine

/-! ## Queries (R42, R79, R132) -/

theorem bayOfArg_eq_none {bay : Nat} (far : 8 ≤ bay) : bayOfArg bay = none := dif_neg (Nat.not_lt.mpr far)

theorem lineOfArg_eq_none {line : Nat} (out : line = 0 ∨ 2 < line) : lineOfArg line = none := dif_neg (by omega)

theorem ownBatchQuery_badArgument {s : State} {line slot : Nat} (bad : line = 0 ∨ 2 < line ∨ 1 < slot) :
    ownBatchQuery line slot s = refuse s .badArgument := by
  unfold ownBatchQuery
  split
  · rfl
  next l named =>
  have wrong : 1 < slot := by
    by_contra good
    rw [lineOfArg_eq_none (by omega)] at named
    exact absurd named nofun
  rw [if_neg (by omega), if_neg (by omega)]

/-- Settles O12: each query answers the record its argument names, or refuses, and leaves the state. -/
theorem recordQueriesAnswer : Obligations.RecordQueriesAnswer := by
  intro s n tag bay line slot run
  refine ⟨fun far => ?_, fun b named => ?_, fun bad => ?_, fun l named => ⟨?_, ?_⟩, fun role => ⟨fun none => ?_, fun o some => ?_⟩⟩
  · exact live_take run rfl (r := refuse s .badArgument) (by simp only [ownVesselQuery, bayOfArg_eq_none far])
  · exact live_take run rfl (r := { state := s, status := .ok, body := s.vesselBody b })
      (by simp only [ownVesselQuery, Option.mem_def.mp named])
  · exact live_take run rfl (ownBatchQuery_badArgument bad)
  · exact live_take run rfl (r := { state := s, status := .ok, body := .batch l 0 (s.line l).lastNumber (s.line l).current })
      (by simp only [ownBatchQuery, Option.mem_def.mp named, if_true])
  · exact live_take run rfl (r := { state := s, status := .ok, body := .batch l 1 (s.line l).lastNumber (s.line l).previous })
      (by simp only [ownBatchQuery, Option.mem_def.mp named, one_ne_zero, if_false, if_true])
  all_goals
    have asks : permitted .feedOutcome (roleOf n) = true := by
      cases r : roleOf n with
      | supervisory => exact absurd r role
      | _ => rfl
  · exact live_take run asks (r := refuse s .noFeed) (by simp only [ownFeedOutcome, none])
  · exact live_take run asks (r := { state := s, status := .ok, body := .outcome o })
      (by simp only [ownFeedOutcome, Option.mem_def.mp some])

/-! ## The Definition Store (R38, R39, R40, R146) -/

/-- Settles O34: the end of a write and the reset input each act on the store's operation. -/
theorem storeWriteEnds : Obligations.StoreWriteEnds := by
  intro s b c latest run
  refine ⟨fun writing => ⟨?_, assertReset s, rfl, ?_⟩, fun idle => ?_⟩
  · refine (live_running endStoreWrite s run).trans ?_
    simp only [endStoreWrite, Store.finish, writing]
  · simp only [assertReset, run, Bool.false_eq_true, if_false, Store.cutShort, writing]
  · refine (live_running endStoreWrite s run).trans ?_
    have stands : s.store.finish = s.store := by
      unfold Store.finish
      split
      · next op =>
        obtain idle | ⟨bay, captures⟩ := idle
        · exact absurd (op.symm.trans idle) nofun
        · simp [StoreOp.captures, op] at captures
      · rfl
    rw [endStoreWrite, stands]

/-! ## The vessel requests (R31 to R37) -/

/-- A bay enters service on an OK channel (R27, R53). -/
theorem enterService_settling {s : State} {b : BayIx} (ok : (s.channel b).state = .ok) :
    s.enterService b = (s.setBay b { s.bay b with state := .settling }).setChannel b { s.channel b with
      window := some (Window.opened .baseline s.now s.params.settleTime) } := by
  simp only [State.enterService, ok, if_true, openWindow_spec, State.setBay_channel, State.setBay_now, State.setBay_params]

/-- A bay enters service on a channel that is not OK (R27). -/
theorem enterService_hold {s : State} {b : BayIx} (lost : (s.channel b).state ≠ .ok) :
    s.enterService b = s.setBay b { s.bay b with state := .hold } := if_neg lost

theorem setStoreOp_enterService (s : State) (op : StoreOp) (b : BayIx) :
    (s.setStoreOp op).enterService b = (s.enterService b).setStoreOp op := by
  by_cases ok : (s.channel b).state = .ok
  · rw [enterService_settling (s := s.setStoreOp op) ok, enterService_settling ok]
    rfl
  · rw [enterService_hold (s := s.setStoreOp op) ok, enterService_hold ok]
    rfl

theorem setFeed_enterService (s : State) (c : BayIx) (f : Option Feed) (b : BayIx) :
    (s.setFeed c f).enterService b = (s.enterService b).setFeed c f := by
  by_cases ok : (s.channel b).state = .ok
  · rw [enterService_settling (s := s.setFeed c f) ok, enterService_settling ok]
    rfl
  · rw [enterService_hold (s := s.setFeed c f) ok, enterService_hold ok]
    rfl

theorem setBay_enterService_settling {s : State} {b : BayIx} {r : Bay} (ok : (s.channel b).state = .ok) :
    (s.setBay b r).enterService b = (s.setBay b { r with state := .settling }).setChannel b { s.channel b with
      window := some (Window.opened .baseline s.now s.params.settleTime) } := by
  rw [enterService_settling (s := s.setBay b r) ok, State.setBay_bay, State.setBay_setBay]
  rfl

theorem setBay_enterService_hold {s : State} {b : BayIx} {r : Bay} (lost : (s.channel b).state ≠ .ok) :
    (s.setBay b r).enterService b = s.setBay b { r with state := .hold } := by
  rw [enterService_hold (s := s.setBay b r) lost, State.setBay_bay, State.setBay_setBay]

theorem storeBusy_iff (s : State) : s.storeBusy = true ↔ s.store.op ≠ .idle := by simp [State.storeBusy]

theorem outOfService_iff (r : Bay) : r.outOfService = true ↔ r.state = .absent ∨ r.state = .sealed := by
  simp [Bay.outOfService]

theorem calibrationBusy_iff (r : Bay) : r.calibrationBusy = true ↔
    r.state = .settling ∨ r.state = .feeding ∨ r.state = .closing ∨ r.state = .fault := by
  simp [Bay.calibrationBusy, or_assoc]

theorem mountArgsOk_iff (vid : Nat) (g : GasClass) (capacity tare : Nat) : mountArgsOk vid g capacity tare = true ↔
    vid ≠ 0 ∧ 50 ≤ capacity ∧ capacity ≤ 5000 ∧ 1000 ≤ tare ∧ tare ≤ 400000
      ∧ tare + capacity * fillDensity g ≤ 1000000 := decide_eq_true_iff

theorem vesselInUse_iff (s : State) (b : BayIx) (vid : Nat) : s.vesselInUse b vid = true ↔
    ∃ c : BayIx, c ≠ b ∧ (s.bay c).state ≠ .absent ∧ (s.bay c).state ≠ .sealed ∧ ∃ v ∈ (s.bay c).vessel, v.id = vid := by
  simp [State.vesselInUse, List.any_eq_true, mem_allBays, Bay.outOfService, Option.any_eq_true, and_assoc]

/-! ### VESSEL_MOUNT -/

/-- Arguments out of range are refused first (R31). -/
theorem ownVesselMount_badArgument {s : State} {bay vid cls capacity tare : Nat}
    (bad : ∀ b g, bayOfArg bay = some b → classOfCode cls = some g → ¬mountArgsOk vid g capacity tare = true) :
    ownVesselMount bay vid cls capacity tare s = refuse s .badArgument := by
  unfold ownVesselMount
  split
  · next b g hb hg => exact if_pos (by simpa using bad b g hb hg)
  · rfl

/-- With arguments in range the bay is looked at, then the vessel id, then the store (R31). -/
theorem ownVesselMount_inRange {s : State} {bay vid cls capacity tare : Nat} {b : BayIx} {g : GasClass}
    (hb : bayOfArg bay = some b) (hg : classOfCode cls = some g) (args : mountArgsOk vid g capacity tare = true) :
    ownVesselMount bay vid cls capacity tare s =
      if !(s.bay b).outOfService then refuse s .wrongState
      else if s.vesselInUse b vid then refuse s .duplicate
      else if s.storeBusy then refuse s .storeBusy
      else
        { state := (((s.setBay b ((s.bay b).mounted { id := vid, cls := g, capacity := capacity, tare := tare })).setFeed
            b none).beginWrite b (.definition { id := vid, cls := g, capacity := capacity, tare := tare } (s.bay b).zero
              (s.bay b).scale)).enterService b, status := .ok } := by
  simp only [ownVesselMount, hb, hg, args, Bool.not_true, Bool.false_eq_true, if_false]

/-- Settles O31, in the order of the checks of R31; the bay enters service with its new vessel (R32). -/
theorem mountDefinesVessel : Obligations.MountDefinesVessel := by
  intro s n tag bay vid cls capacity tare run role
  have role : permitted .vesselMount (roleOf n) = true := by rw [role]; rfl
  refine ⟨fun bad => ?_, fun b hb g hg => ⟨fun heavy => ?_, fun hv c1 c2 t1 t2 fits => ?_⟩⟩
  · refine live_take run role (ownVesselMount_badArgument fun b g hb hg args => ?_)
    obtain ⟨hv, c1, c2, t1, t2, -⟩ := (mountArgsOk_iff vid g capacity tare).mp args
    have near : ¬8 ≤ bay := fun far => by simp [bayOfArg_eq_none far] at hb
    have code := (classOfCode_isSome cls).mp (by simp [hg])
    omega
  · refine live_take run role (ownVesselMount_badArgument fun c g' _ hg' args => ?_)
    obtain rfl := Option.some.inj (hg.symm.trans hg')
    obtain ⟨-, -, -, -, -, fits⟩ := (mountArgsOk_iff vid g capacity tare).mp args
    omega
  have inRange := ownVesselMount_inRange (s := s) hb hg ((mountArgsOk_iff vid g capacity tare).mpr
    ⟨hv, c1, c2, t1, t2, fits⟩)
  refine ⟨fun notAbsent notSealed => ?_, fun out => ?_⟩
  · have inService : ¬(s.bay b).outOfService = true := by simp [outOfService_iff, notAbsent, notSealed]
    rw [if_pos (by simpa using inService)] at inRange
    exact live_take run role inRange
  rw [if_neg (by simpa using (outOfService_iff _).mpr out)] at inRange
  refine ⟨fun taken => ?_, fun free busy => ?_, fun free idle lost => ?_, fun free idle ok => ?_⟩
  · rw [if_pos ((vesselInUse_iff s b vid).mpr taken)] at inRange
    exact live_take run role inRange
  all_goals rw [if_neg (mt (vesselInUse_iff s b vid).mp free)] at inRange
  · rw [if_pos ((storeBusy_iff s).mpr busy)] at inRange
    exact live_take run role inRange
  all_goals rw [if_neg (mt (storeBusy_iff s).mp (not_not.mpr idle)), State.beginWrite, setStoreOp_enterService,
    setFeed_enterService] at inRange
  · rw [setBay_enterService_hold lost] at inRange
    exact live_take run role inRange
  · rw [setBay_enterService_settling ok] at inRange
    exact live_take run role inRange

/-! ### VESSEL_RETIRE and VESSEL_CLEAR_FAULT -/

theorem ownVesselRetire_serving {s : State} {bay : Nat} {b : BayIx} (hb : bayOfArg bay = some b)
    (serving : (s.bay b).state = .ready ∨ (s.bay b).state = .full ∨ (s.bay b).state = .hold) :
    ownVesselRetire bay s = if s.storeBusy then refuse s .storeBusy
      else { state := (s.setBay b { s.bay b with state := .sealed }).beginWrite b .cleared, status := .ok } := by
  obtain e | e | e := serving <;> simp only [ownVesselRetire, hb, e]

theorem ownClearFault_bay {s : State} {bay : Nat} {b : BayIx} (hb : bayOfArg bay = some b) :
    ownClearFault bay s = if (s.bay b).state ≠ .fault ∨ s.switch b = false then refuse s .wrongState
      else { state := s.enterService b, status := .ok } := by
  simp only [ownClearFault, hb]

/-- Settles O32, by the state of the bay; a cleared fault enters service. -/
theorem retireAndClearFault : Obligations.RetireAndClearFault := by
  intro s n tag bay run role
  have retires : permitted .vesselRetire (roleOf n) = true := by rw [role]; rfl
  have clears : permitted .vesselClearFault (roleOf n) = true := by rw [role]; rfl
  refine ⟨fun far => ⟨?_, ?_⟩, fun b hb => ⟨fun out => ?_, fun busy => ?_, fun serving => ?_, fun wrong => ?_,
    fun fault closed lost => ?_, fun fault closed ok => ?_⟩⟩
  · exact live_take run retires (r := refuse s .badArgument) (by simp only [ownVesselRetire, bayOfArg_eq_none far])
  · exact live_take run clears (r := refuse s .badArgument) (by simp only [ownClearFault, bayOfArg_eq_none far])
  · refine live_take run retires (r := refuse s .wrongState) ?_
    obtain e | e := out <;> simp only [ownVesselRetire, Option.mem_def.mp hb, e]
  · refine live_take run retires (r := refuse s .bayBusy) ?_
    obtain e | e | e | e := busy <;> simp only [ownVesselRetire, Option.mem_def.mp hb, e]
  · have answer := ownVesselRetire_serving hb serving
    refine ⟨fun busy => ?_, fun idle => ?_⟩
    · rw [if_pos ((storeBusy_iff s).mpr busy)] at answer
      exact live_take run retires answer
    · rw [if_neg (mt (storeBusy_iff s).mp (not_not.mpr idle))] at answer
      exact live_take run retires answer
  all_goals have answer := ownClearFault_bay (s := s) hb
  · rw [if_pos wrong] at answer
    exact live_take run clears answer
  all_goals rw [if_neg (by simp [fault, closed])] at answer
  · rw [enterService_hold lost] at answer
    exact live_take run clears answer
  · rw [enterService_settling ok] at answer
    exact live_take run clears answer

/-! ### CALIBRATE -/

theorem ownCalibrate_bay {s : State} {bay scale : Nat} {b : BayIx} (zeroAt : Nat) (hb : bayOfArg bay = some b)
    (scaled : scale ≠ 0) :
    ownCalibrate bay zeroAt scale s =
      if (s.bay b).calibrationBusy then refuse s .bayBusy
      else if s.storeBusy then refuse s .storeBusy
      else
        { state := if (s.bay b).outOfService then (s.setBay b { s.bay b with zero := zeroAt, scale := scale }).beginWrite b
              ((s.bay b).calibrationRecord zeroAt scale)
            else ((s.setBay b { s.bay b with zero := zeroAt, scale := scale }).beginWrite b
              ((s.bay b).calibrationRecord zeroAt scale)).enterService b
          status := .ok } := by
  simp only [ownCalibrate, hb, if_neg scaled]

theorem ownZeroCapture_bay {s : State} {bay scale : Nat} {b : BayIx} (hb : bayOfArg bay = some b) (scaled : scale ≠ 0) :
    ownZeroCapture bay scale s =
      if (s.bay b).calibrationBusy then refuse s .bayBusy
      else if (s.bay b).state ≠ .absent ∨ (s.channel b).state ≠ .ok then refuse s .wrongState
      else if s.storeBusy then refuse s .storeBusy
      else { state := (s.setStoreOp (.capture b scale)).openCapture b, status := .ok } := by
  simp only [ownZeroCapture, hb, if_neg scaled]

/-- A calibration writes the full definition of a vessel in service, and the calibration alone otherwise (R34, R38). -/
theorem calibrationRecord_inService {r : Bay} {v : Vessel} (inService : ¬r.outOfService = true) (vessel : r.vessel = some v)
    (zeroAt scale : Nat) : r.calibrationRecord zeroAt scale = .definition v zeroAt scale := by
  simp only [Bay.calibrationRecord, Bool.not_eq_true _ ▸ inService, vessel]

theorem calibrationRecord_outOfService {r : Bay} (out : r.outOfService = true) (zeroAt scale : Nat) :
    r.calibrationRecord zeroAt scale = .calibration zeroAt scale := by
  simp only [Bay.calibrationRecord, out]

/-- A zero of 16,777,215 is the other form of the command (R35). -/
theorem exec_calibrate {s : State} {n : Node} {tag bay zeroAt scale : Nat} (direct : zeroAt < 16777215) :
    exec (.calibrate n tag bay zeroAt scale) s = live (take n tag .calibrate (ownCalibrate bay zeroAt scale)) s := by
  have other : ¬zeroAt = 16777215 := by omega
  change live (if zeroAt = 16777215 then takeZeroCapture n tag bay scale else takeCalibrate n tag bay zeroAt scale) s = _
  rw [if_neg other]
  rfl

/-- Settles O33, by the state of the bay and the store; a bay in service that is calibrated enters service anew. -/
theorem calibrateSets : Obligations.CalibrateSets := by
  intro s n tag bay zeroAt scale run role direct
  have role : permitted .calibrate (roleOf n) = true := by rw [role]; rfl
  have direct {r : Taken} (answer : ownCalibrate bay zeroAt scale s = r) :
      exec (.calibrate n tag bay zeroAt scale) s = .next (r.state.replied n tag .calibrate r.status r.body) :=
    (exec_calibrate direct).trans (live_take run role answer)
  have capture {r : Taken} (answer : ownZeroCapture bay scale s = r) :
      exec (.calibrateZeroCapture n tag bay scale) s = .next (r.state.replied n tag .calibrate r.status r.body) :=
    live_take run role answer
  refine ⟨fun bad => ?_, fun scaled b hb => ?_⟩
  · have refused : ownCalibrate bay zeroAt scale s = refuse s .badArgument ∧
        ownZeroCapture bay scale s = refuse s .badArgument := by
      obtain far | zero := bad
      · simp only [ownCalibrate, ownZeroCapture, bayOfArg_eq_none far, and_self]
      · constructor
        · unfold ownCalibrate; split <;> simp [zero]
        · unfold ownZeroCapture; split <;> simp [zero]
    exact ⟨direct refused.1, capture refused.2⟩
  have sets := ownCalibrate_bay (s := s) zeroAt hb scaled
  have captures := ownZeroCapture_bay (s := s) hb scaled
  refine ⟨fun busy => ?_, fun serving => ?_, fun out => ?_⟩
  · have busy := (calibrationBusy_iff (s.bay b)).mpr busy
    rw [if_pos busy] at sets captures
    exact ⟨direct sets, capture captures⟩
  · have free : ¬(s.bay b).calibrationBusy = true := by
      obtain e | e | e := serving <;> simp [calibrationBusy_iff, e]
    have inService : ¬(s.bay b).outOfService = true := by
      obtain e | e | e := serving <;> simp [outOfService_iff, e]
    have present : (s.bay b).state ≠ .absent ∨ (s.channel b).state ≠ .ok := by
      obtain e | e | e := serving <;> simp [e]
    rw [if_neg free] at sets captures
    rw [if_pos present] at captures
    refine ⟨capture captures, fun busy => ?_, fun idle v vessel => ⟨fun lost => ?_, fun ok => ?_⟩⟩
    · rw [if_pos ((storeBusy_iff s).mpr busy)] at sets
      exact direct sets
    all_goals rw [if_neg (mt (storeBusy_iff s).mp (not_not.mpr idle)), if_neg inService,
      calibrationRecord_inService inService vessel, State.beginWrite, setStoreOp_enterService] at sets
    · rw [setBay_enterService_hold lost] at sets
      exact direct sets
    · rw [setBay_enterService_settling ok] at sets
      exact direct sets
  · have free : ¬(s.bay b).calibrationBusy = true := by
      obtain e | e := out <;> simp [calibrationBusy_iff, e]
    have outOfService := (outOfService_iff (s.bay b)).mpr out
    rw [if_neg free] at sets captures
    refine ⟨fun busy => ?_, fun idle => ?_, fun wrong => ?_, fun absent ok => ?_⟩
    · rw [if_pos ((storeBusy_iff s).mpr busy)] at sets
      exact direct sets
    · rw [if_neg (mt (storeBusy_iff s).mp (not_not.mpr idle)), if_pos outOfService,
        calibrationRecord_outOfService outOfService] at sets
      exact direct sets
    · rw [if_pos (wrong.imp_left fun sealed => by simp [sealed])] at captures
      exact capture captures
    · rw [if_neg (by simp [absent, ok])] at captures
      refine ⟨fun busy => ?_, fun idle => ?_⟩
      · rw [if_pos ((storeBusy_iff s).mpr busy)] at captures
        exact capture captures
      · rw [if_neg (mt (storeBusy_iff s).mp (not_not.mpr idle))] at captures
        exact capture captures

end Sys2Proof.Machine
end

section
namespace Sys2Proof.Machine

/-! ## Alarms by kind (R176) -/

theorem alarmIx_injective {j k : AlarmKind} (same : alarmIx j = alarmIx k) : j = k := by
  have listed (k : AlarmKind) : allAlarmKinds[(alarmIx k).val]? = some k := by
    cases k <;> rfl
  exact Option.some.inj (by rw [← listed j, ← listed k, same])

/-- The records after one more count of a kind (R176). -/
theorem count_recs (a : AlarmSet) (k : AlarmKind) (x : Option Nat) (v : Int) (j : AlarmKind) :
    (a.count k x v).recs[alarmIx j] = if j = k then
      { count := min 255 ((a.recs[alarmIx k]).count + 1), subject := x, value := v } else a.recs[alarmIx j] := by
  by_cases same : j = k
  · subst same
    simp [AlarmSet.count]
  · have other : (alarmIx k).val ≠ (alarmIx j).val := fun e => same (alarmIx_injective (Fin.ext e)).symm
    simp only [AlarmSet.count, Fin.getElem_fin, if_neg same, Vector.getElem_set_ne _ _ other]

/-! ## Power-on and the reset input (R40, R136, R146, R176) -/

theorem cutShort_op (st : Store) : st.cutShort.op = .idle := by
  unfold Store.cutShort
  split <;> rfl

/-- A write in progress leaves its record with a bad check, and no other (R40). -/
theorem cutShort_recs (st : Store) (b : BayIx) :
    st.cutShort.recs[b] = { contents := st.recs[b].contents, good := st.recs[b].good && !st.op.writes b } := by
  unfold Store.cutShort
  split
  · next c contents latest writing =>
    by_cases same : c = b
    · subst same
      simp [StoreOp.writes, writing]
    · have other : c.val ≠ b.val := fun e => same (Fin.ext e)
      simp [StoreOp.writes, writing, beq_false_of_ne same, Vector.getElem_set_ne _ _ other]
  · next idle =>
    have none : st.op.writes b = false := by
      unfold StoreOp.writes
      split
      · next writing => exact absurd writing (idle _ _ _)
      · rfl
    simp [none]

/-- STORE_LOST is counted for a record that fails its check (R40). -/
def State.checkRecord (s : State) (b : BayIx) : State :=
  if s.store.recs[b].good then s else s.alarm .storeLost (some b.val)

/-- The Alarm Set rewritten. -/
def State.setAlarms (s : State) (a : AlarmSet) : State := { s with alarms := a }

/-- The records are checked one after another: only the count of STORE_LOST moves, by those that fail. -/
theorem checkRecords_spec (bs : List BayIx) (s : State)
    (room : (s.alarms.recs[alarmIx .storeLost]).count + bs.length ≤ 255) :
    ∃ a : AlarmSet, bs.foldl State.checkRecord s = s.setAlarms a ∧
      ∀ k : AlarmKind, (a.recs[alarmIx k]).count = (s.alarms.recs[alarmIx k]).count +
        if k = .storeLost then (bs.filter (fun b => !s.store.recs[b].good)).length else 0 := by
  induction bs generalizing s with
  | nil => exact ⟨s.alarms, rfl, fun k => by simp⟩
  | cons b rest ih =>
    rw [List.length_cons] at room
    rw [List.foldl_cons]
    cases good : s.store.recs[b].good with
    | true =>
      rw [State.checkRecord, if_pos good]
      simp only [List.filter_cons, good, Bool.not_true, Bool.false_eq_true, if_false]
      exact ih s (by omega)
    | false =>
      rw [State.checkRecord, if_neg (Bool.eq_false_iff.mp good)]
      have counted := count_recs s.alarms .storeLost (some b.val) 0
      obtain ⟨a, frame, counts⟩ := ih (s.alarm .storeLost (some b.val))
        (by rw [State.alarm_alarms, counted, if_pos rfl]; dsimp only; omega)
      refine ⟨a, frame, fun k => ?_⟩
      rw [counts k, State.alarm_alarms, counted]
      by_cases lost : k = .storeLost
      · subst lost
        simp only [if_true, State.alarm_store, List.filter_cons, good, Bool.not_false, List.length_cons]
        omega
      · simp only [if_neg lost]

theorem startUp_eq (s : State) :
    startUp s = if (allBays.foldl State.checkRecord ((s.defaults s.store.cutShort).alarm .powerOn none)).interlock.estop
      then (allBays.foldl State.checkRecord ((s.defaults s.store.cutShort).alarm .powerOn none)).alarm .estopOn none
      else allBays.foldl State.checkRecord ((s.defaults s.store.cutShort).alarm .powerOn none) := by
  unfold startUp State.checkRecord
  dsimp only

/-- A start is every block at its power-on value, and the Alarm Set with POWER_ON counted once, STORE_LOST for each bad
record, and ESTOP_ON where the E-stop input reads ASSERTED (R40, R136, R176). -/
theorem startUp_spec (s : State) : ∃ a : AlarmSet,
    startUp s = (s.defaults s.store.cutShort).setAlarms a ∧
    ∀ k : AlarmKind, (a.recs[alarmIx k]).count = if k = .powerOn then 1
      else if k = .storeLost then (allBays.filter (fun b => !s.store.cutShort.recs[b].good)).length
      else if k = .estopOn ∧ s.interlock.estop = true then 1 else 0 := by
  have cleared (k : AlarmKind) : (AlarmSet.cleared.recs[alarmIx k]).count = 0 := by simp [AlarmSet.cleared]
  have started := count_recs AlarmSet.cleared .powerOn none 0
  obtain ⟨a, frame, counts⟩ := checkRecords_spec allBays ((s.defaults s.store.cutShort).alarm .powerOn none) (by
    rw [State.alarm_alarms, State.defaults, started, if_neg nofun, cleared]
    decide)
  have counted (k : AlarmKind) : (a.recs[alarmIx k]).count = if k = .powerOn then 1
      else if k = .storeLost then (allBays.filter (fun b => !s.store.cutShort.recs[b].good)).length else 0 := by
    rw [counts k, State.alarm_alarms, State.defaults, started]
    by_cases power : k = .powerOn
    · subst power
      simp only [if_true, cleared, reduceCtorEq, if_false]
      rfl
    · simp only [if_neg power, cleared, Nat.zero_add]
      rfl
  have unfolded := startUp_eq s
  rw [frame] at unfolded
  have level : (((s.defaults s.store.cutShort).alarm .powerOn none).setAlarms a).interlock.estop = s.interlock.estop := rfl
  rw [level] at unfolded
  cases estop : s.interlock.estop with
  | false =>
    rw [estop, if_neg nofun] at unfolded
    exact ⟨a, unfolded, fun k => by simp only [counted k, Bool.false_eq_true, and_false, if_false]⟩
  | true =>
    rw [estop, if_pos rfl] at unfolded
    refine ⟨a.count .estopOn none 0, unfolded, fun k => ?_⟩
    rw [count_recs]
    by_cases asserted : k = .estopOn
    · subst asserted
      simp only [if_true, counted, reduceCtorEq, if_false, and_self]
      rfl
    · simp only [asserted, counted k, false_and, if_false]

/-- What a start leaves, block by block (R40, R136, R146, R176). -/
theorem startUp_blocks (s : State) (inReset : Bool) :
    let good (b : BayIx) : Bool := s.store.recs[b].good && !s.store.op.writes b
    let t := startUp { s with inReset := inReset }
    t.units = [] ∧ t.waits = [] ∧ t.pli = { } ∧ t.params = { } ∧ t.batches = BatchTable.initial ∧
      (∀ n : Node, t.node n = { }) ∧ t.switches = s.switches ∧ t.now = s.now ∧ t.pending = s.pending ∧
      t.interlock = { s.interlock with flag := false } ∧ t.store.op = .idle ∧
      (∀ b : BayIx, t.feed b = none ∧ t.valve b = false ∧ t.channel b = Channel.initial ∧
        t.store.recs[b] = { contents := s.store.recs[b].contents, good := good b } ∧
        t.bay b = restoreBay { contents := s.store.recs[b].contents, good := good b }) ∧
      (∀ k : AlarmKind, (t.alarms.recs[alarmIx k]).count = if k = .powerOn then 1
        else if k = .storeLost then (allBays.filter (fun b => !good b)).length
        else if k = .estopOn ∧ s.interlock.estop = true then 1 else 0) ∧ t.inReset = inReset := by
  intro good t
  obtain ⟨a, frame, counts⟩ := startUp_spec { s with inReset := inReset }
  have on := startUp_poweredOn { s with inReset := inReset }
  refine ⟨on.units, on.waits, on.pli, on.params, on.batches, on.nodes, ?_, ?_, ?_, ?_, ?_, fun b =>
    ⟨on.feeds b, on.valves b, on.channels b, ?_, ?_⟩, fun k => ?_, ?_⟩
  all_goals simp only [t, frame, State.setAlarms]
  · rfl
  · rfl
  · rfl
  · rfl
  · exact cutShort_op s.store
  · exact cutShort_recs s.store b
  · exact (restoreBays_get _ b).trans (congrArg restoreBay (cutShort_recs s.store b))
  · rw [counts k]
    simp only [cutShort_recs, good]
  · rfl

/-- Settles O53: a start is read off block by block, each bay from its record; the assertion acts on five places. -/
theorem resetCommands : Obligations.ResetCommands := by
  intro s good started
  have starts {u : State} {inReset : Bool} (h : u = { s with inReset := inReset }) :
      started (startUp u) ∧ (startUp u).inReset = inReset := by
    subst h
    obtain ⟨units, waits, pli, params, batches, nodes, switches, now, pending, interlock, op, bays, counts, held⟩ :=
      startUp_blocks s inReset
    refine ⟨⟨units, waits, pli, params, batches, nodes, switches, now, pending, interlock, op, fun b => ?_, counts⟩, held⟩
    obtain ⟨feed, valve, channel, record, bay⟩ := bays b
    refine ⟨feed, valve, channel, record, fun empty => ?_, fun z sc checked contents => ?_,
      fun v z sc checked contents => ?_⟩
    · rw [bay, restoreBay]
      obtain bad | cleared := empty
      · rw [if_neg (Bool.eq_false_iff.mp bad)]
      · simp only [cleared, ite_self]
    · rw [bay, restoreBay, if_pos checked, contents]
    · rw [bay, restoreBay, if_pos checked, contents]
  refine ⟨⟨startUp s, rfl, starts rfl⟩, fun held => ⟨?_, ?_⟩, fun run => ⟨?_, ?_⟩⟩
  · exact congrArg Host.Outcome.next (show assertReset s = s by simp [assertReset, held])
  · refine ⟨startUp { s with inReset := false }, congrArg Host.Outcome.next ?_, starts rfl⟩
    rw [if_pos held]
  · exact congrArg Host.Outcome.next (by simp [run])
  · refine ⟨assertReset s, rfl, ?_⟩
    simp only [assertReset, run, Bool.false_eq_true, if_false]
    refine ⟨trivial, fun b => ?_, cutShort_op s.store, cutShort_recs s.store, rfl, ?_⟩
    · exact Vector.getElem_replicate _
    · rw [← run]

end Sys2Proof.Machine
end

section
namespace Sys2Proof.Machine

/-! ## The re-evaluation of the grant reserve (R43, R90, R91, R176, R178) -/

/-- An alarm counted for each of some bays in turn: the count saturates, and the last bay is the subject (R176). -/
theorem countEach_recs (k : AlarmKind) (bs : List BayIx) (a : AlarmSet) (j : AlarmKind) :
    (bs.foldl (fun a b => a.count k (some b.val) 0) a).recs[alarmIx j] =
      if j = k ∧ bs ≠ [] then
        { count := min 255 ((a.recs[alarmIx j]).count + bs.length), subject := bs.getLast?.map (·.val), value := 0 }
      else a.recs[alarmIx j] := by
  induction bs generalizing a with
  | nil => simp
  | cons b rest ih =>
    rw [List.foldl_cons, ih, count_recs]
    by_cases same : j = k
    · subst same
      cases rest with
      | nil => simp
      | cons c rest =>
        have saturates : min 255 (min 255 ((a.recs[alarmIx j]).count + 1) + (c :: rest).length) =
            min 255 ((a.recs[alarmIx j]).count + (b :: c :: rest).length) := by
          rw [List.length_cons (a := b)]
          omega
        simp only [ne_eq, reduceCtorEq, not_false_eq_true, and_self, if_true, saturates, List.getLast?_cons_cons]
    · simp only [same, false_and, if_false]

theorem countEach_groups (k : AlarmKind) (bs : List BayIx) (a : AlarmSet) (h : Fin 4) :
    (bs.foldl (fun a b => a.count k (some b.val) 0) a).groups[h] =
      (a.groups[h] || decide (h = alarmGroupOf k ∧ bs ≠ [])) := by
  induction bs generalizing a with
  | nil => simp
  | cons b rest ih =>
    rw [List.foldl_cons, ih]
    have counted : (a.count k (some b.val) 0).groups[h] = (a.groups[h] || decide (h = alarmGroupOf k)) := by
      by_cases same : h = alarmGroupOf k
      · subst same
        simp [AlarmSet.count]
      · have other : (alarmGroupOf k).val ≠ h.val := fun e => same (Fin.ext e).symm
        simp [AlarmSet.count, same, Vector.getElem_set_ne _ _ other]
    rw [counted]
    by_cases same : h = alarmGroupOf k <;> simp [same]

/-- A READY bay whose headroom is below the reserve falls (R43). -/
def State.falls (s : State) (b : BayIx) : Bool := (s.bay b).state == .ready && !s.hasReserve b

/-- A FULL bay with the reserve and an OK channel rises (R43). -/
def State.rises (s : State) (b : BayIx) : Bool :=
  (s.bay b).state == .full && s.hasReserve b && (s.channel b).state == .ok

/-- The bay record under the reserve as it stands (R43). -/
def State.bayReviewed (s : State) (b : BayIx) : Bay :=
  { s.bay b with state := if s.falls b then .full else if s.rises b then .ready else (s.bay b).state }

/-- All bay records rewritten. -/
def State.setBays (s : State) (bays : Vector Bay 8) : State := { s with bays := bays }

theorem setBay_self (s : State) (b : BayIx) : s.setBay b (s.bay b) = s := by
  simp only [State.setBay, State.bay, Fin.getElem_fin, Vector.set_getElem_self]

theorem reviewBay_falls {s : State} {b : BayIx} (h : s.falls b = true) :
    s.reviewBay b = (s.setBay b { s.bay b with state := .full }).alarm .vesselFull (some b.val) := by
  obtain ⟨ready, short⟩ : (s.bay b).state = .ready ∧ s.hasReserve b = false := by simpa [State.falls] using h
  simp [State.reviewBay, ready, short]

theorem reviewBay_rises {s : State} {b : BayIx} (h : s.rises b = true) :
    s.reviewBay b = s.setBay b { s.bay b with state := .ready } := by
  obtain ⟨⟨full, reserve⟩, ok⟩ : ((s.bay b).state = .full ∧ s.hasReserve b = true) ∧ (s.channel b).state = .ok := by
    simpa [State.rises] using h
  simp [State.reviewBay, full, reserve, ok]

theorem reviewBay_stands {s : State} {b : BayIx} (low : ¬s.falls b = true) (high : ¬s.rises b = true) :
    s.reviewBay b = s := by
  unfold State.reviewBay
  split
  · next ready => exact if_pos (by simpa [State.falls, ready] using low)
  · next full => exact if_neg (by simpa [State.rises, full] using high)
  · rfl

/-- A re-evaluation rewrites the bay's record, and counts VESSEL_FULL where the bay falls. -/
theorem reviewBay_eq (s : State) (b : BayIx) : s.reviewBay b = (s.setBay b (s.bayReviewed b)).setAlarms
    (if s.falls b then s.alarms.count .vesselFull (some b.val) 0 else s.alarms) := by
  by_cases low : s.falls b = true
  · rw [reviewBay_falls low, State.bayReviewed, if_pos low, if_pos low]
    rfl
  by_cases high : s.rises b = true
  · rw [reviewBay_rises high, State.bayReviewed, if_neg low, if_pos high, if_neg low]
    rfl
  · rw [reviewBay_stands low high, State.bayReviewed, if_neg low, if_neg high, if_neg low]
    exact (congrArg (State.setAlarms · s.alarms) (setBay_self s b)).symm

/-- Some bays re-evaluated one after another: each as it stood, since no other bay is looked at. -/
theorem reviewBays_spec (bs : List BayIx) (single : bs.Nodup) (s : State) : ∃ bays : Vector Bay 8,
    bs.foldl State.reviewBay s = (s.setBays bays).setAlarms
      ((bs.filter s.falls).foldl (fun a b => a.count .vesselFull (some b.val) 0) s.alarms) ∧
    ∀ c : BayIx, bays[c] = if c ∈ bs then s.bayReviewed c else s.bay c := by
  induction bs generalizing s with
  | nil => exact ⟨s.bays, rfl, fun c => by simp [State.bay]⟩
  | cons b rest ih =>
    obtain ⟨fresh, single⟩ := List.nodup_cons.mp single
    obtain ⟨bays, frame, figures⟩ := ih single (s.reviewBay b)
    have other (c : BayIx) (h : c ≠ b) : (s.reviewBay b).bay c = s.bay c := by
      rw [reviewBay_eq]
      exact State.setBay_bay_ne s b _ c h
    have reserve (c : BayIx) (h : c ≠ b) : (s.reviewBay b).hasReserve c = s.hasReserve c := by
      have params : (s.reviewBay b).params = s.params := by rw [reviewBay_eq]; rfl
      simp only [State.hasReserve, other c h, params]
    have channel (c : BayIx) : (s.reviewBay b).channel c = s.channel c := by rw [reviewBay_eq]; rfl
    have lows (c : BayIx) (h : c ≠ b) : (s.reviewBay b).falls c = s.falls c := by
      simp only [State.falls, other c h, reserve c h]
    have highs (c : BayIx) (h : c ≠ b) : (s.reviewBay b).rises c = s.rises c := by
      simp only [State.rises, other c h, reserve c h, channel]
    have falling : rest.filter (s.reviewBay b).falls = rest.filter s.falls :=
      List.filter_congr fun c hc => lows c fun e => fresh (e ▸ hc)
    refine ⟨bays, ?_, fun c => ?_⟩
    · rw [List.foldl_cons, frame, falling, List.filter_cons, reviewBay_eq]
      cases s.falls b <;> rfl
    · rw [figures c]
      by_cases same : c = b
      · subst same
        rw [if_neg fresh, if_pos List.mem_cons_self, reviewBay_eq]
        exact State.setBay_bay s c _
      · simp only [List.mem_cons, same, false_or]
        split
        · simp only [State.bayReviewed, other c same, lows c same, highs c same]
        · exact other c same

/-- A bay has the reserve where its headroom reaches it; a bay without a vessel has none (R26). -/
theorem hasReserve_eq {s : State} (positive : 0 < s.params.grantReserve) (b : BayIx) :
    s.hasReserve b = decide (s.params.grantReserve ≤ ((s.bay b).headroom).getD 0) := by
  unfold State.hasReserve
  cases (s.bay b).headroom with
  | none => exact (decide_eq_false (Nat.not_le.mpr positive)).symm
  | some h => rfl

/-- The grant reserve set, nothing re-evaluated yet (R178). -/
def State.setReserve (s : State) (v : Nat) : State := { s with params := { s.params with grantReserve := v } }

section

variable (s : State) {v : Nat} (positive : 0 < v) (b : BayIx)
include positive

theorem setReserve_falls : (s.setReserve v).falls b =
    decide ((s.bay b).state = .ready ∧ ((s.bay b).headroom).getD 0 < v) := by
  have reserve : (s.setReserve v).hasReserve b = decide (v ≤ ((s.bay b).headroom).getD 0) :=
    hasReserve_eq (s := s.setReserve v) positive b
  change ((s.bay b).state == .ready && !(s.setReserve v).hasReserve b) = _
  rw [reserve, Bool.eq_iff_iff]
  simp

theorem setReserve_rises : (s.setReserve v).rises b =
    decide ((s.bay b).state = .full ∧ v ≤ ((s.bay b).headroom).getD 0 ∧ (s.channel b).state = .ok) := by
  have reserve : (s.setReserve v).hasReserve b = decide (v ≤ ((s.bay b).headroom).getD 0) :=
    hasReserve_eq (s := s.setReserve v) positive b
  change ((s.bay b).state == .full && (s.setReserve v).hasReserve b && (s.channel b).state == .ok) = _
  rw [reserve, Bool.eq_iff_iff]
  simp [and_assoc]

end

/-- SET_PARAM of the grant reserve: clamp, set, review every bay, and scan those that rise (R43, R178). -/
theorem ownSetParam_reserve (s : State) (value : Nat) : ownSetParam 4 value s =
    { state := (allBays.filter (s.setReserve (max 100 (min 20000 value))).rises).foldl State.oldestServed
        (allBays.foldl State.reviewBay (s.setReserve (max 100 (min 20000 value))))
      status := if 100 ≤ value ∧ value ≤ 20000 then .ok else .clamped
      body := .applied (max 100 (min 20000 value)) } := by
  have scans : State.oldestServed = State.scan := funext fun t => funext fun b => (scan_eq_oldestServed t b).symm
  have applied : (if value = clamp 100 20000 value then Status.ok else .clamped) =
      if 100 ≤ value ∧ value ≤ 20000 then .ok else .clamped :=
    if_congr (by unfold clamp; omega) rfl rfl
  rw [scans, ← applied]
  rfl

/-- Settles O28: the state reviewed is the fold over all bays, and the bays that rise are scanned from there. -/
theorem reserveIsReviewed : Obligations.ReserveIsReviewed := by
  intro s n tag value run role reserve room falls rises falling
  have role : permitted .setParam (roleOf n) = true := by rw [role]; rfl
  have positive : 0 < reserve := lt_of_lt_of_le (by decide : 0 < 100) (le_max_left _ _)
  have lows : (s.setReserve reserve).falls = falls := funext (setReserve_falls s positive)
  have highs : (s.setReserve reserve).rises = rises := funext (setReserve_rises s positive)
  obtain ⟨bays, frame, figures⟩ := reviewBays_spec allBays (by decide) (s.setReserve reserve)
  rw [lows] at frame
  have answer := live_take run role (ownSetParam_reserve s value) (tag := tag)
  refine ⟨allBays.foldl State.reviewBay (s.setReserve reserve), fun b => ?_, ?_, fun k => ?_, fun h => ?_, ?_, ?_⟩
  · rw [frame]
    refine (figures b).trans ?_
    rw [if_pos (mem_allBays b), State.bayReviewed, lows, highs]
    rfl
  · rw [frame]; rfl
  · rw [frame]
    exact countEach_recs .vesselFull falling s.alarms k
  · rw [frame]
    exact countEach_groups .vesselFull falling s.alarms h
  · rw [frame]; rfl
  · change exec (.setParam n tag 4 value) s = _ at answer
    rw [highs] at answer
    exact answer

end Sys2Proof.Machine
end

section
namespace Sys2Proof.Machine

/-! ## Samples on an OK channel (R45, R52, R54, R55) -/

/-- A valid sample on an OK channel goes to the overfill watch and to the window (R45). -/
theorem exec_okSample {s : State} {b : BayIx} {raw : Nat} (run : s.inReset = false) (valid : raw < 16777215)
    (ok : (s.channel b).state = .ok) :
    exec (.sample b (.code raw)) s = .next (((s.setChannel b ((s.channel b).heard s.now
        (grossOf raw (s.bay b).zero (s.bay b).scale).1 (grossOf raw (s.bay b).zero (s.bay b).scale).2)).watchOverfill
          b).collect b raw (grossOf raw (s.bay b).zero (s.bay b).scale).1) := by
  refine (live_running _ s run).trans (congrArg _ ?_)
  simp only [takeSample, if_pos valid, State.validSample, if_pos ok]

theorem watchOverfill_idle {s : State} {b : BayIx} (idle : (s.bay b).state ≠ .feeding) : s.watchOverfill b = s :=
  if_neg fun h => idle h.1

/-- On a bay that is not FEEDING the sample goes to the window alone. -/
theorem exec_idleSample {s : State} {b : BayIx} {raw : Nat} (run : s.inReset = false) (valid : raw < 16777215)
    (ok : (s.channel b).state = .ok) (idle : (s.bay b).state ≠ .feeding) :
    exec (.sample b (.code raw)) s = .next ((s.setChannel b ((s.channel b).heard s.now
        (grossOf raw (s.bay b).zero (s.bay b).scale).1 (grossOf raw (s.bay b).zero (s.bay b).scale).2)).collect b raw
          (grossOf raw (s.bay b).zero (s.bay b).scale).1) := by
  rw [exec_okSample run valid ok, watchOverfill_idle (by exact idle)]

theorem collect_waiting {s : State} {b : BayIx} {w : Window} (window : (s.channel b).window = some w)
    (phase : w.phase = .wait) (raw gross : Nat) : s.collect b raw gross = s := by
  simp only [State.collect, window, phase]

theorem collect_few {s : State} {b : BayIx} {w : Window} (window : (s.channel b).window = some w)
    (phase : w.phase = .average) (few : w.samples.length < 7) (raw gross : Nat) :
    s.collect b raw gross = s.setChannel b { s.channel b with
      window := some { w with samples := w.samples ++ [if w.purpose = .zeroCapture then raw else gross] } } := by
  have short : (w.samples ++ [if w.purpose = .zeroCapture then raw else gross]).length < 8 := by
    rw [List.length_append, List.length_singleton]
    omega
  simp only [State.collect, window, phase, if_pos short]

/-! ## Settled readings of a BASELINE window (R26, R59, R61, R90) -/

section

variable (s : State) (b : BayIx) (st : BayState) (net : Nat)

/-- A settled net changes one bay and the Alarm Set. -/
theorem netTaken_eq : s.netTaken b st net = ((s.setBay b { s.bay b with
    state := st, net := net, book := net, source := .settled,
    unreconciled := if (s.bay b).source = .estimated then (net : Int) - (s.bay b).book
      else (s.bay b).unreconciled }).setAlarms (if (s.bay b).source = .estimated then
        s.alarms.count .channelRestored (some b.val) ((net : Int) - (s.bay b).book) else s.alarms)) := by
  unfold State.netTaken
  split
  · rfl
  · rfl

/-- The state of the bay may as well be set last. -/
theorem netTaken_state (st' : BayState) :
    (s.netTaken b st net).setBay b { (s.netTaken b st net).bay b with state := st' } = s.netTaken b st' net := by
  rw [netTaken_eq, netTaken_eq]
  have bay (t : State) (a : AlarmSet) : (t.setAlarms a).bay b = t.bay b := rfl
  have swap (t : State) (a : AlarmSet) (r : Bay) : (t.setAlarms a).setBay b r = (t.setBay b r).setAlarms a := rfl
  rw [bay, swap, State.setBay_bay, State.setBay_setBay]

theorem netTaken_hasReserve {v : Vessel} (vessel : (s.bay b).vessel = some v) :
    (s.netTaken b st net).hasReserve b = decide (s.params.grantReserve ≤ v.capacity * fillDensity v.cls - net) := by
  have bay (t : State) (a : AlarmSet) : (t.setAlarms a).bay b = t.bay b := rfl
  rw [netTaken_eq, State.hasReserve, bay, State.setBay_bay]
  simp [Bay.headroom, Bay.maxFill, vessel, State.setAlarms]

/-- A BASELINE reading takes a SETTLING bay to READY with its grant scan, or to FULL with VESSEL_FULL. -/
theorem deliverBaseline_eq {s : State} {b : BayIx} {v : Vessel} (gross : Nat) (settling : (s.bay b).state = .settling)
    (vessel : (s.bay b).vessel = some v) :
    s.deliverBaseline b gross =
      if s.params.grantReserve ≤ v.capacity * fillDensity v.cls - (gross - v.tare) then
        (s.netTaken b .ready (gross - v.tare)).oldestServed b
      else (s.netTaken b .full (gross - v.tare)).alarm .vesselFull (some b.val) := by
  have net : (s.bay b).settledNet gross = gross - v.tare := by simp [Bay.settledNet, vessel]
  rw [State.deliverBaseline, if_pos settling, net, takeSettledNet_eq_netTaken, State.readyOrFull,
    netTaken_hasReserve s b _ _ vessel, netTaken_state, netTaken_state, scan_eq_oldestServed]
  simp only [decide_eq_true_eq]

/-- A set of eight is complete: its window has ended, and an unstable reading is counted (R56, R59). -/
def State.setRead (s : State) (b : BayIx) (g : Nat × Bool) (unstable : Bool) : State :=
  if unstable then (s.windowDone b g).alarm .unstableReading (some b.val) else s.windowDone b g

/-- The eighth sample of a BASELINE set, steady or unstable at set 4, settles its SETTLING bay (R55, R56, R59). -/
theorem exec_baselineReading {s : State} {b : BayIx} {raw : Nat} {w : Window} {v : Vessel} {unstable : Bool}
    (run : s.inReset = false) (valid : raw < 16777215) (ok : (s.channel b).state = .ok)
    (settling : (s.bay b).state = .settling) (window : (s.channel b).window = some w) (phase : w.phase = .average)
    (purpose : w.purpose = .baseline) (seven : w.samples.length = 7) (vessel : (s.bay b).vessel = some v)
    (steady : unstable = false →
      spread (w.samples ++ [(grossOf raw (s.bay b).zero (s.bay b).scale).1]) ≤ w.band.getD 0)
    (unsteady : unstable = true →
      ¬ spread (w.samples ++ [(grossOf raw (s.bay b).zero (s.bay b).scale).1]) ≤ w.band.getD 0 ∧ 4 ≤ w.setNo) :
    exec (.sample b (.code raw)) s =
      let g := grossOf raw (s.bay b).zero (s.bay b).scale
      let net := mean8 (w.samples ++ [g.1]) - v.tare
      .next (if s.params.grantReserve ≤ v.capacity * fillDensity v.cls - net then
          ((s.setRead b g unstable).netTaken b .ready net).oldestServed b
        else ((s.setRead b g unstable).netTaken b .full net).alarm .vesselFull (some b.val)) := by
  have bay (g : Nat × Bool) : (s.setRead b g unstable).bay b = s.bay b := by unfold State.setRead; split <;> rfl
  have params (g : Nat × Bool) : (s.setRead b g unstable).params = s.params := by unfold State.setRead; split <;> rfl
  have delivered (g : Nat × Bool) := deliverBaseline_eq (s := s.setRead b g unstable) (mean8 (w.samples ++ [g.1]))
    (bay g ▸ settling) (bay g ▸ vessel)
  simp only [params] at delivered
  rw [exec_eighthSample run valid ok (by simp [settling]) window phase (by simp [purpose]) seven steady unsteady, purpose]
  exact congrArg Host.Outcome.next (delivered _)

end

/-! ## The statements -/

/-- The passing of a settle deadline reached or ahead (R54). -/
theorem passSettle_waiting {s : State} {b : BayIx} {w : Window} {d : Nat} (arrival : Nat)
    (window : (s.channel b).window = some w) (phase : w.phase = .wait) (deadline : w.settleDeadline = some d) :
    passSettle b arrival s = if d ≤ max s.now arrival then
      (s.advance arrival).setChannel b { s.channel b with
        window := some { w with phase := .average, setNo := 1, band := some s.params.stabilityBand, samples := [] } }
      else s.advance arrival := by
  have window' : ((s.advance arrival).channel b).window = some w := window
  simp only [passSettle, window', phase, deadline, State.passed, State.advance_now, true_and]
  exact if_congr decide_eq_true_iff rfl rfl

/-- Settles O37: the deadline and the early samples act on the window alone; the eighth delivers the BASELINE reading. -/
theorem windowSettles : Obligations.WindowSettles := by
  intro s b raw arrival run w window
  refine ⟨fun phase d deadline => ?_, fun ok idle valid => ?_⟩
  · have passed := (live_running (passSettle b arrival) s run).trans
      (congrArg _ (passSettle_waiting arrival window phase deadline))
    exact ⟨fun ahead => by rw [if_neg (Nat.not_le.mpr ahead)] at passed; exact passed,
      fun reached => by rw [if_pos reached] at passed; exact passed⟩
  intro gross taken heard
  have window' (c : Channel) (h : c.window = (s.channel b).window) : ((s.setChannel b c).channel b).window = some w := by
    rw [State.setChannel_channel, h]
    exact window
  refine ⟨fun phase => ?_, fun phase few => ?_, fun phase purpose settling seven steady v vessel => ?_⟩
  · rw [exec_idleSample run valid ok idle, collect_waiting (window' ((s.channel b).heard s.now _ _) rfl) phase]
    rfl
  · rw [exec_idleSample run valid ok idle, collect_few (window' ((s.channel b).heard s.now _ _) rfl) phase few, State.setChannel_channel,
      State.setChannel_setChannel]
    rfl
  intro net gap settled reconciled
  have read := exec_baselineReading (unstable := false) run valid ok settling window phase purpose seven vessel
    (fun _ => (spread_le_iff _ _).mpr steady) nofun
  have plain (st : BayState) (measured : (s.bay b).source ≠ .estimated) :
      (s.windowDone b (grossOf raw (s.bay b).zero (s.bay b).scale)).netTaken b st net = settled st := if_neg measured
  have gapped (st : BayState) (estimated : (s.bay b).source = .estimated) :
      (s.windowDone b (grossOf raw (s.bay b).zero (s.bay b).scale)).netTaken b st net = reconciled st := by
    refine (if_pos estimated).trans ?_
    simp only [reconciled, settled, State.setBay_bay, State.setBay_setBay]
    rfl
  refine ⟨fun room => ⟨fun measured => ?_, fun estimated => ?_⟩, fun short => ⟨fun measured => ?_, fun estimated => ?_⟩⟩
  · rw [← plain .ready measured]
    exact read.trans (congrArg Host.Outcome.next (if_pos room))
  · rw [← gapped .ready estimated]
    exact read.trans (congrArg Host.Outcome.next (if_pos room))
  · rw [← plain .full measured]
    exact read.trans (congrArg Host.Outcome.next (if_neg (Nat.not_le.mpr short)))
  · rw [← gapped .full estimated]
    exact read.trans (congrArg Host.Outcome.next (if_neg (Nat.not_le.mpr short)))

/-- A bay that a settled net has taken to READY serves what its vessel accepts (R23, R90). -/
theorem netTaken_canServe {s : State} {b : BayIx} {v : Vessel} (st : BayState) (net : Nat)
    (vessel : (s.bay b).vessel = some v) :
    (s.netTaken b st net).canServe b = fun e => decide ((v.cls = e.cls ∨ v.cls = .mx) ∧
      (e.cls = .hc ∨ e.cls = .mx → s.permitOn = true ∧ s.interlock.estop = false)) := by
  have bay (t : State) (a : AlarmSet) : (t.setAlarms a).bay b = t.bay b := rfl
  funext e
  rw [netTaken_eq, State.canServe, bay, State.setBay_bay, vessel]
  rfl

section

variable {s : State} {b : BayIx} {e : WaitEntry} {v : Vessel} (vessel : (s.bay b).vessel = some v)
include vessel

/-- The grant body of a bay with a vessel (R67). -/
theorem grantBody_some : Body.grant b (((s.bay b).vessel.map (·.id)).getD 0) (((s.bay b).headroom).getD 0)
    = .grant b v.id (v.capacity * fillDensity v.cls - (s.bay b).net) := by
  simp [Bay.headroom, Bay.maxFill, vessel]

/-- An entry of a station served (R67, R91, R153). -/
theorem entryServed_unit {tag : Nat} (purpose : e.purpose = .unit tag) :
    s.entryServed b e =
      ((((s.setWaits (s.waits.filter (fun x => x.node != e.node))).granted b e.node (.unit tag) e.cls).setSlot e.node
        (.deliverable {
          tag := e.tag, kind := e.kind, status := .ok,
          body := .grant b v.id (v.capacity * fillDensity v.cls - (s.bay b).net) })).setPli { s.pli with
            delivery := s.pli.delivery ++ [e.node] }) := by
  simp only [State.entryServed, purpose, grantBody_some vessel]
  rfl

/-- An entry of a foam line served: its batch opens the next segment (R67, R91, R121, R153). -/
theorem entryServed_batch {l : FoamLine} {bt : Batch} (purpose : e.purpose = .batch l bt.number)
    (current : (s.line l).current = some bt) :
    s.entryServed b e =
      (((((s.setWaits (s.waits.filter (fun x => x.node != e.node))).granted b e.node
        (.batch l bt.number (bt.segments.length + 1)) e.cls).setSlot e.node
          (.deliverable {
            tag := e.tag, kind := e.kind, status := .ok,
            body := .grant b v.id (v.capacity * fillDensity v.cls - (s.bay b).net) })).setPli { s.pli with
              delivery := s.pli.delivery ++ [e.node] }).setLine l { s.line l with
                current := some { bt with
                  state := .opened
                  segments := bt.segments ++ [
                    { bay := b, endCause := none, settled := false, gain := none, estimated := false }] } }) := by
  have current' : ((((s.setWaits (s.waits.filter (fun x => x.node != e.node))).granted b e.node
    (.batch l bt.number (bt.segments.length + 1)) e.cls).line l)).current = some bt := current
  simp only [State.entryServed, purpose, grantBody_some vessel, current, Option.map_some, Option.getD_some]
  rw [modCurrent_some current']
  rfl

end

/-- Settles O39: the oldest entry served is written out, by its purpose. -/
theorem readyBayServesOldest : Obligations.ReadyBayServesOldest := by
  intro s b raw run valid ok settling w window phase purpose seven g taken steady v vessel net room e found settled served
  have read := exec_baselineReading (unstable := false) run valid ok settling window phase purpose seven vessel
    (fun _ => (spread_le_iff _ _).mpr steady) nofun
  have taken_eq := netTaken_eq (s.windowDone b g) b .ready net
  have oldest : ((s.windowDone b g).netTaken b .ready net).oldestServed b =
      ((s.windowDone b g).netTaken b .ready net).entryServed b e := by
    have waits : ((s.windowDone b g).netTaken b .ready net).waits = s.waits := by rw [taken_eq]; rfl
    have oldest : s.waits.find? (((s.windowDone b g).netTaken b .ready net).canServe b) = some e := by
      rw [netTaken_canServe (s := s.windowDone b g) (v := v) .ready net vessel]
      exact found
    simp only [State.oldestServed, waits, oldest]
  have serves : exec (.sample b (.code raw)) s = .next (((s.windowDone b g).netTaken b .ready net).entryServed b e) :=
    read.trans (congrArg Host.Outcome.next ((if_pos room).trans oldest))
  have vessel' : (((s.windowDone b g).netTaken b .ready net).bay b).vessel = some v := by
    rw [taken_eq]
    exact (congrArg Bay.vessel (State.setBay_bay _ b _)).trans vessel
  have figure : (((s.windowDone b g).netTaken b .ready net).bay b).net = net := by
    rw [taken_eq]
    exact congrArg Bay.net (State.setBay_bay _ b _)
  have waits : ((s.windowDone b g).netTaken b .ready net).waits = s.waits := by rw [taken_eq]; rfl
  have pli : ((s.windowDone b g).netTaken b .ready net).pli = s.pli := by rw [taken_eq]; rfl
  have line (l : FoamLine) : ((s.windowDone b g).netTaken b .ready net).line l = s.line l := by rw [taken_eq]; rfl
  refine ⟨fun unit hu => ?_, fun l hl bt current batch => ?_⟩
  · have purposes : e.purpose = .unit unit := by
      cases purposes : e.purpose with
      | unit tag => simpa [purposes, WaitPurpose.unit?] using hu
      | batch l number => simp [purposes, WaitPurpose.unit?] at hu
    rw [serves, entryServed_unit vessel' purposes, figure, waits, pli]
    rfl
  · rw [serves, entryServed_batch vessel' batch ((congrArg _ (line l)).trans current), figure, waits, pli, line]
    rfl

end Sys2Proof.Machine
end

section
namespace Sys2Proof.Machine

/-! ## The overfill watch and the end of a weighed feed (R52, R74, R75, R122) -/

theorem endOfSegment_eq (s : State) (p : FeedPurpose) (c : EndCause) : s.endOfSegment p c = s.purposeEnds p c := by
  cases p <;> rfl

theorem purposeEnds_openWindow (s : State) (p : FeedPurpose) (c : EndCause) (b : BayIx) (w : WindowPurpose) :
    (s.purposeEnds p c).openWindow b w = (s.openWindow b w).purposeEnds p c := by
  cases p <;> rfl

theorem purposeEnds_channel (s : State) (p : FeedPurpose) (c : EndCause) (b : BayIx) :
    (s.purposeEnds p c).channel b = s.channel b := by
  cases p <;> rfl

theorem purposeEnds_bay (s : State) (p : FeedPurpose) (c : EndCause) (b : BayIx) :
    (s.purposeEnds p c).bay b = s.bay b := by
  cases p <;> rfl

/-- A feed that ends with the channel OK, for a cause that counts no alarm (R74). -/
theorem endFeed_weighed {s : State} {b : BayIx} {f : Feed} {c : EndCause} (held : s.feed b = some f)
    (feeding : f.state = .feeding) (ok : (s.channel b).state = .ok) (quiet : c ≠ .abandoned ∧ c ≠ .interlock) :
    s.endFeed b c = (s.endsWeighed b f c).purposeEnds f.purpose c := by
  have silent (t : State) : t.endAlarm f.owner c = t := by
    unfold State.endAlarm
    split
    · exact absurd rfl quiet.1
    · exact absurd rfl quiet.2
    · rfl
  have bay : (((s.setFeed b (some (f.ended c))).closeBay b).modOutcome f.owner
    (fun o => { o with endCause := some c, settled := false })).bay b = { s.bay b with
      state := .closing, closeWatch := if s.switch b then none else some (s.now + 2000) } := State.setBay_bay _ b _
  simp only [State.endFeed, held, if_pos feeding, silent, endOfSegment_eq, purposeEnds_channel, purposeEnds_bay, bay]
  rw [if_pos (by exact ok)]
  cases closed : s.switch b with
  | true =>
    rw [if_pos rfl, if_pos rfl, purposeEnds_openWindow, State.endsWeighed, if_pos closed]
    refine congrArg (State.purposeEnds · f.purpose c) ?_
    simp only [State.closeBay, State.setFeed_switch, closed, if_true]
    rfl
  | false =>
    rw [if_neg Bool.false_ne_true, if_neg nofun, State.endsWeighed, if_neg (Bool.eq_false_iff.mp closed)]
    refine congrArg (State.purposeEnds · f.purpose c) ?_
    simp only [State.closeBay, State.setFeed_switch, closed, Bool.false_eq_true, if_false]
    rfl

/-- The overfill watch looks at the live net of a FEEDING bay (R52). -/
theorem watchOverfill_feeding {s : State} {b : BayIx} {v : Vessel} (feeding : (s.bay b).state = .feeding)
    (vessel : (s.bay b).vessel = some v) :
    s.watchOverfill b = if v.capacity * fillDensity v.cls ≤ (s.channel b).lastGross - v.tare then s.endFeed b .full
      else s := by
  simp only [State.watchOverfill, feeding, Bay.maxFill, State.liveNet, vessel, Option.map_some, Option.getD_some, true_and]

theorem collect_none {s : State} {b : BayIx} (window : (s.channel b).window = none) (raw gross : Nat) :
    s.collect b raw gross = s := by
  simp only [State.collect, window]

/-- The sample that ends a feed is not collected: the FEED_END window has only just opened (R28, R54). -/
theorem collect_endsWeighed {s : State} {b : BayIx} (f : Feed) (c : EndCause) (window : (s.channel b).window = none)
    (raw gross : Nat) :
    ((s.endsWeighed b f c).purposeEnds f.purpose c).collect b raw gross = (s.endsWeighed b f c).purposeEnds f.purpose c := by
  cases closed : s.switch b with
  | true =>
    refine collect_waiting (w := Window.opened .feedEnd s.now s.params.settleTime) ?_ rfl raw gross
    rw [purposeEnds_channel, State.endsWeighed, if_pos closed, State.setChannel_channel]
  | false =>
    refine collect_none ?_ raw gross
    rw [purposeEnds_channel, State.endsWeighed, if_neg (Bool.eq_false_iff.mp closed)]
    exact window

/-! ## Full sets (R55, R56, R57) -/

theorem captures_eq_some {o : StoreOp} {b : BayIx} {scale : Nat} (h : o.captures b = some scale) : o = .capture b scale := by
  unfold StoreOp.captures at h
  split at h
  · next c scale' =>
    split at h
    · next same => rw [same, Option.some.inj h]
    · exact absurd h nofun
  · exact absurd h nofun

/-- The eighth code of a zero capture makes the zero, and starts the calibration-only write (R35, R57). -/
theorem collect_capture {s : State} {b : BayIx} {w : Window} {scale : Nat} (window : (s.channel b).window = some w)
    (phase : w.phase = .average) (purpose : w.purpose = .zeroCapture) (seven : w.samples.length = 7)
    (captures : s.store.op = .capture b scale) (raw gross : Nat) :
    s.collect b raw gross = ((s.setChannel b { s.channel b with window := none }).setBay b { s.bay b with
      zero := mean8 (w.samples ++ [raw]), scale := scale }).setStoreOp
        (.writing b (.calibration (mean8 (w.samples ++ [raw])) scale) (s.now + 30)) := by
  have full : ¬(w.samples ++ [raw]).length < 8 := by simp [seven]
  simp only [State.collect, window, phase, purpose, if_true, if_neg full, State.finishCapture, State.setChannel_store,
    captures]
  rfl

/-- A set outside its band that is not the fourth is followed by the next (R55, R56). -/
theorem collect_nextSet {s : State} {b : BayIx} {w : Window} (window : (s.channel b).window = some w)
    (phase : w.phase = .average) (purpose : w.purpose ≠ .zeroCapture) (seven : w.samples.length = 7) (raw gross : Nat)
    (wide : ¬spread (w.samples ++ [gross]) ≤ w.band.getD 0) (more : w.setNo < 4) :
    s.collect b raw gross = s.setChannel b { s.channel b with
      window := some { w with setNo := w.setNo + 1, band := some s.params.stabilityBand, samples := [] } } := by
  have full : ¬(w.samples ++ [gross]).length < 8 := by simp [seven]
  simp only [State.collect, window, phase, if_neg purpose, if_neg full, State.judgeSet, if_neg wide, if_pos more]

/-- Settles O40: the overfill watch, a sample without a window, and each way a set of eight can end. -/
theorem samplesEndFeedOrSet : Obligations.SamplesEndFeedOrSet := by
  intro s b raw run valid ok g heard
  have sampled := exec_okSample (b := b) (raw := raw) run valid ok
  have idled (idle : (s.bay b).state ≠ .feeding) := exec_idleSample (raw := raw) run valid ok idle
  have record (w : Option Window) (window : (s.channel b).window = w) :
      s.setChannel b ((s.channel b).heard s.now g.1 g.2) = heard w := by
    subst window
    rfl
  have windowed (w : Option Window) : ((heard w).channel b).window = w :=
    congrArg Channel.window (State.setChannel_channel s b _)
  have ended (w w' : Option Window) : (heard w).setChannel b { (heard w).channel b with window := w' } = heard w' := by
    simp only [heard, State.setChannel_channel, State.setChannel_setChannel]
  refine ⟨fun feeding window v vessel => ?_, fun idle window => ?_, fun idle w window phase seven => ⟨?_, ?_⟩⟩
  · rw [record none window] at sampled
    have live : ((heard none).channel b).lastGross = g.1 := congrArg Channel.lastGross (State.setChannel_channel s b _)
    have watched := watchOverfill_feeding (s := heard none) (v := v) feeding vessel
    rw [live] at watched
    refine ⟨fun below => ?_, fun reached f held feeds => ?_⟩
    · rw [if_neg (Nat.not_le.mpr below)] at watched
      rw [watched, collect_none (windowed none)] at sampled
      exact sampled
    · have lasts : ((heard none).channel b).state = .ok :=
        (congrArg Channel.state (State.setChannel_channel s b _)).trans ok
      rw [if_pos reached, endFeed_weighed (s := heard none) (c := .full) held feeds lasts ⟨nofun, nofun⟩] at watched
      rw [watched, collect_endsWeighed f .full (windowed none)] at sampled
      exact sampled
  · rw [idled idle, record none window, collect_none (windowed none)]
  · intro purpose scale captures codes
    rw [idled idle, record (some w) window, collect_capture (windowed _) phase purpose seven (captures_eq_some captures),
      ended]
    rfl
  · intro purpose taken wide
    have wide : ¬spread taken ≤ w.band.getD 0 := by
      obtain ⟨x, hx, y, hy, far⟩ := wide
      exact fun near => absurd ((spread_le_iff _ _).mp near x hx y hy) (Nat.not_le.mpr far)
    refine ⟨fun more => ?_, fun last baseline settling v vessel => ?_⟩
    · rw [idled idle, record (some w) window, collect_nextSet (windowed _) phase purpose seven _ _ wide more, ended]
      rfl
    · have read := exec_baselineReading (unstable := true) run valid ok settling window phase baseline seven vessel nofun
        fun _ => ⟨wide, last⟩
      exact ⟨fun room => read.trans (congrArg Host.Outcome.next (if_pos room)),
        fun short => read.trans (congrArg Host.Outcome.next (if_neg (Nat.not_le.mpr short)))⟩

end Sys2Proof.Machine
end

section
namespace Sys2Proof.Machine

/-! ## Bookings by estimate (R10, R80, R81, R102, R107, R130) -/

theorem bookTold_setFeed (s : State) (f : Feed) (g : GainResult) (b : BayIx) (r : Option Feed) :
    (s.bookTold f g).setFeed b r = (s.setFeed b r).bookTold f g := by
  rw [setFeed_eq_placed, setFeed_eq_placed, bookTold_placed]

/-- The state of a bay may as well be set before a booking. -/
theorem bookTold_setState (s : State) (f : Feed) (g : GainResult) (b : BayIx) (st : BayState) :
    (s.bookTold f g).setBay b { (s.bookTold f g).bay b with state := st }
      = (s.setBay b { s.bay b with state := st }).bookTold f g :=
  (bookTold_placed s (fun bays => bays.set b { bays[b] with state := st }) id f g).symm

/-- An unbooked feed is booked by its estimate; net and book take the book figure (R81). -/
theorem bookByEstimate_unbooked {s : State} {b : BayIx} {f : Feed} (held : s.feed b = some f) (unbooked : f.booked = false) :
    s.bookByEstimate b = ((s.setBay b { s.bay b with
      net := f.bookFigure, book := f.bookFigure, source := .estimated }).setFeed b
        (some { f with weightKept := false, booked := true })).bookTold f (estimatedGain f.estimate) := by
  have booked : s.bookByEstimate b = (s.setBay b { s.bay b with
      net := f.bookFigure, book := f.bookFigure, source := .estimated }).bookGain b { f with weightKept := false }
        (estimatedGain f.estimate) := by
    simp only [State.bookByEstimate, held, unbooked, Bool.false_eq_true, if_false]
  rw [booked, bookGain_eq_bookTold, bookTold_setFeed]
  rfl

theorem bookByEstimate_booked {s : State} {b : BayIx} {f : Feed} (held : s.feed b = some f) (booked : f.booked = true) :
    s.bookByEstimate b = s := by
  simp only [State.bookByEstimate, held, booked, if_true]

/-- The estimate of a unit's feed, written out (R10, R102). -/
theorem bookToRecord_estimate {s : State} {p : FeedPurpose} {unit : Nat} (purpose : p.unit? = some unit) (estimate : Nat) :
    s.bookToRecord p (estimatedGain estimate) = s.modUnit unit (fun u => { u with
      recovered := min 999999 (u.recovered + estimate), feedCount := min 255 (u.feedCount + 1), estimated := true }) := by
  cases p with
  | unit tag =>
    obtain rfl : tag = unit := Option.some.inj purpose
    simp only [State.bookToRecord, UnitRec.book, estimatedGain, Bool.or_false, Bool.or_true]
  | batch l number k => exact absurd purpose nofun

/-- What an estimated booking from `left` leaves, by the purpose of the feed and the slot of its owner, where nodes and
lines stood as in `s`. -/
theorem estimateBooked {s left : State} {f : Feed} {x : Host.Outcome State Fault Refusal}
    (node : left.node f.owner = s.node f.owner) (line : ∀ l, left.line l = s.line l)
    (booked : x = .next (left.bookTold f (estimatedGain f.estimate))) :
    (∀ unit ∈ f.purpose.unit?,
      let told : State := (left.modUnit unit (fun u => { u with
        recovered := min 999999 (u.recovered + f.estimate), feedCount := min 255 (u.feedCount + 1),
        estimated := true })).gainTold f.owner f.estimate true
      ((s.node f.owner).slot.awaits .feedClose = false → x = .next told) ∧
      (∀ tag : Nat, (s.node f.owner).slot = .deferred tag .feedClose → ∀ o ∈ (s.node f.owner).outcome,
        x = .next (told.released f.owner tag .feedClose
          (.outcome { o with settled := true, gain := some f.estimate, estimated := true })))) ∧
    (∀ l ∈ f.purpose.line?, ∀ bt ∈ (s.line l).current, ∀ k : Nat, f.purpose = .batch l bt.number k →
      let segment := bt.segmentBooked k f.estimate true false
      ((s.node f.owner).slot.awaits .feedClose = false →
        bt.state ≠ .closing ∨ (∃ y ∈ segment.segments, y.settled = false) →
          x = .next ((left.setLine l { s.line l with current := some segment }).gainTold f.owner f.estimate true)) ∧
      (bt.state = .closing → (∀ y ∈ segment.segments, y.settled = true) → f.owner = nodeOfLine l →
        ∀ tag : Nat, (s.node f.owner).slot = .deferred tag .foamClose →
          x = .next (((left.batchDone l segment).gainTold f.owner f.estimate true).released f.owner tag .foamClose
            segment.doneBody))) := by
  refine ⟨fun unit hu => ?_, fun l hl bt current k batch => ?_⟩
  · have record := bookToRecord_estimate (s := left) hu f.estimate
    refine ⟨fun silent => ?_, fun tag slot o outcome => ?_⟩
    · rw [booked, bookTold_silent record (by rw [modUnit_spec, State.setUnits_node, node]; exact silent)]
      rfl
    · rw [booked, bookTold_released record (by rw [modUnit_spec, State.setUnits_node, node]; exact slot)
        (by rw [modUnit_spec, State.setUnits_node, node]; exact outcome)]
      rfl
  · have current' : (left.line l).current = some bt := (congrArg _ (line l)).trans current
    refine ⟨fun silent goesOn => ?_, fun closing settled owner tag slot => ?_⟩
    · have record : left.bookToRecord f.purpose (estimatedGain f.estimate) = _ :=
        (congrArg (left.bookToRecord · _) batch).trans (bookToBatch_stays current' goesOn)
      rw [booked, bookTold_silent record (by rw [State.setLine_node, node]; exact silent), line]
      rfl
    · rw [booked, bookTold_completes (g := estimatedGain f.estimate) batch owner current' closing settled
        (by rw [node]; exact slot)]
      rfl

/-! ## The close watch (R28, R29, R30, R37) -/

theorem leaveClosing_freed {s : State} {b : BayIx} {f : Feed} (held : s.feed b = some f) (booked : f.booked = true)
    (closing : (s.bay b).state = .closing) (watch : (s.bay b).closeWatch = none) :
    s.leaveClosing b = (s.enterService b).setFeed b none := by
  simp only [State.leaveClosing, held, booked, closing, watch, and_self, if_true, setFeed_enterService]

theorem leaveClosing_watched {s : State} {b : BayIx} (watch : (s.bay b).closeWatch ≠ none) : s.leaveClosing b = s := by
  obtain e | ⟨-, -, none, -⟩ := leaveClosing_cases s b
  · exact e
  · exact absurd none watch

/-- A confirmed close watch opens the FEED_END window of an unbooked feed on an OK channel (R28). -/
theorem confirmClose_unbooked {s : State} {b : BayIx} {f : Feed} (held : s.feed b = some f) (unbooked : f.booked = false)
    (ok : (s.channel b).state = .ok) :
    s.confirmClose b = (s.setBay b { s.bay b with closeWatch := none }).openWindow b .feedEnd := by
  unfold State.confirmClose
  simp only [State.setBay_feed, held, unbooked, Bool.false_eq_true, if_false]
  exact if_pos ok

/-- A confirmed close watch frees a booked feed, and the bay enters service (R30). -/
theorem confirmClose_booked {s : State} {b : BayIx} {f : Feed} (held : s.feed b = some f) (booked : f.booked = true)
    (closing : (s.bay b).state = .closing) :
    s.confirmClose b = ((s.setBay b { s.bay b with closeWatch := none }).enterService b).setFeed b none := by
  have left := leaveClosing_freed (s := s.setBay b { s.bay b with closeWatch := none }) (f := f) (by exact held) booked
    (by rw [State.setBay_bay]; exact closing) (by rw [State.setBay_bay])
  rw [← left]
  unfold State.confirmClose
  simp only [State.setBay_feed, held, booked, if_true]

/-- A switch that comes to read closed confirms a running close watch (R28). -/
theorem exec_switchConfirms {s : State} {b : BayIx} (run : s.inReset = false) (closing : (s.bay b).state = .closing)
    (watch : (s.bay b).closeWatch ≠ none) :
    exec (.switchClosed b) s = .next ((s.setSwitch b true).confirmClose b) := by
  have live : exec (.switchClosed b) s = .next (switchCloses b s) := congrArg _ (if_neg (by simp [run]))
  exact live.trans (congrArg _ (if_pos ⟨closing, watch⟩))

/-- Without a running close watch the switch reading changes alone (R28). -/
theorem exec_switchUnwatched {s : State} {b : BayIx} (run : s.inReset = false)
    (still : (s.bay b).state ≠ .closing ∨ (s.bay b).closeWatch = none) :
    exec (.switchClosed b) s = .next (s.setSwitch b true) := by
  have live : exec (.switchClosed b) s = .next (switchCloses b s) := congrArg _ (if_neg (by simp [run]))
  exact live.trans (congrArg _ (if_neg fun h => still.elim (absurd h.1) h.2))

theorem passed_some (s : State) (d : Nat) : s.passed (some d) = decide (d ≤ s.now) := rfl

/-- A deadline event of the close watch, on the clock it arrives at (R29). -/
theorem exec_closeWatchExpiry {s : State} (run : s.inReset = false) (b : BayIx) (arrival : Nat) :
    exec (.closeWatchExpiry b arrival) s = .next (if (s.advance arrival).passed (s.bay b).closeWatch
      then (s.advance arrival).expireClose b else s.advance arrival) :=
  live_running (passCloseWatch b arrival) s run

/-- A booked feed is freed at the expiry of its close watch (R29). -/
theorem expireClose_booked {s : State} {b : BayIx} {f : Feed} (held : s.feed b = some f) (booked : f.booked = true) :
    s.expireClose b = ((s.setBay b { s.bay b with state := .fault, closeWatch := none }).alarm .valveFault
      (some b.val)).setFeed b none :=
  congrArg (·.setFeed b none) (bookByEstimate_booked (by exact held) booked)

theorem setBay_alarm_setBay (s : State) (b : BayIx) (r r' : Bay) (k : AlarmKind) (x : Option Nat) :
    ((s.setBay b r).alarm k x).setBay b r' = (s.setBay b r').alarm k x :=
  congrArg (fun t : State => t.alarm k x) (State.setBay_setBay s b r r')

/-- An unbooked feed is freed and booked by its estimate at the expiry of its close watch (R29, R81). -/
theorem expireClose_unbooked {s : State} {b : BayIx} {f : Feed} (held : s.feed b = some f) (unbooked : f.booked = false) :
    s.expireClose b = (((s.setBay b { s.bay b with
      state := .fault, closeWatch := none, net := f.bookFigure, book := f.bookFigure, source := .estimated }).alarm
        .valveFault (some b.val)).setFeed b none).bookTold f (estimatedGain f.estimate) := by
  have estimated := bookByEstimate_unbooked (b := b) (f := f)
    (s := (s.setBay b { s.bay b with state := .fault, closeWatch := none }).alarm .valveFault (some b.val))
    (by exact held) unbooked
  rw [State.alarm_bay, State.setBay_bay] at estimated
  refine (congrArg (·.setFeed b none) estimated).trans ?_
  rw [bookTold_setFeed, State.setFeed_setFeed, setBay_alarm_setBay]

/-- Settles O35: the switch confirms a running watch, and the expiry books what is not booked. -/
theorem closeWatchEnds : Obligations.CloseWatchEnds := by
  intro s b arrival
  refine ⟨rfl, fun run => ⟨exec_switchUnwatched run, fun closing watch f held => ?_⟩, fun run => ⟨fun none => ?_,
    fun d watch => ⟨fun ahead => ?_, fun reached f held => ?_⟩⟩⟩
  · rw [exec_switchConfirms run closing watch]
    refine ⟨fun unbooked ok => ?_, fun booked lost => ?_, fun booked ok => ?_⟩
    · rw [confirmClose_unbooked (s := s.setSwitch b true) held unbooked ok]
      rfl
    · rw [confirmClose_booked (s := s.setSwitch b true) held booked closing, setBay_enterService_hold (by exact lost)]
      rfl
    · rw [confirmClose_booked (s := s.setSwitch b true) held booked closing, setBay_enterService_settling (by exact ok)]
      rfl
  · rw [exec_closeWatchExpiry run, none]
    rfl
  · rw [exec_closeWatchExpiry run, Option.mem_def.mp watch, passed_some]
    exact congrArg _ (if_neg (by simpa using ahead))
  · have expires : exec (.closeWatchExpiry b arrival) s = .next ((s.advance arrival).expireClose b) := by
      rw [exec_closeWatchExpiry run, Option.mem_def.mp watch, passed_some]
      exact congrArg _ (if_pos (by simpa using reached))
    refine ⟨fun booked => ?_, fun unbooked => ?_⟩
    · rw [expires, expireClose_booked (s := s.advance arrival) held booked]
      rfl
    · exact estimateBooked (by rfl) (fun _ => rfl)
        (expires.trans (congrArg _ (expireClose_unbooked (s := s.advance arrival) held unbooked)))

end Sys2Proof.Machine
end

section
namespace Sys2Proof.Machine

/-! ## The loss of a channel (R46, R47, R48, R58) -/

/-- A loss on a bay releases its own zero capture alone (R35, R58). -/
theorem dropCapture_spec (s : State) (b : BayIx) :
    s.dropCapture b = s.setStoreOp (if s.store.op.captures b = none then s.store.op else .idle) := by
  have stands : s.setStoreOp s.store.op = s := rfl
  cases op : s.store.op with
  | capture c scale =>
    by_cases own : c = b
    · simp [State.dropCapture, StoreOp.captures, op, own]
    · simp only [State.dropCapture, StoreOp.captures, op, own, if_false, if_true]; rw [← op, stands]
  | idle => simp only [State.dropCapture, StoreOp.captures, op, if_true]; rw [← op, stands]
  | writing c contents latest => simp only [State.dropCapture, StoreOp.captures, op, if_true]; rw [← op, stands]

/-- The state after a loss, before it is handed to the bay (R46, R58). -/
def State.channelLost (s : State) (b : BayIx) : State :=
  ((s.setChannel b { s.channel b with validRun := 0, silence := none, state := .lost, window := none }).alarm .channelLost
    (some b.val)).setStoreOp (if s.store.op.captures b = none then s.store.op else .idle)

theorem invalidSample_ok {s : State} {b : BayIx} (ok : (s.channel b).state = .ok) :
    s.invalidSample b = (s.channelLost b).handLoss b := by
  refine (if_pos ok).trans ?_
  unfold State.loseChannel
  rw [dropCapture_spec]
  rfl

theorem channelLost_channel (s : State) (b : BayIx) : ((s.channelLost b).channel b).state = .lost := by
  unfold State.channelLost
  rw [State.setStoreOp_channel, State.alarm_channel, State.setChannel_channel]

section handed
variable {s : State} {b : BayIx} {f : Feed}

/-- A SETTLING or READY bay goes to HOLD (R27). -/
theorem handLoss_settled (state : (s.bay b).state = .settling ∨ (s.bay b).state = .ready) :
    s.handLoss b = s.setBay b { s.bay b with state := .hold } := by
  obtain settling | ready := state
  · simp only [State.handLoss, settling]
  · simp only [State.handLoss, ready]

theorem handLoss_idle (state : (s.bay b).state = .absent ∨ (s.bay b).state = .sealed ∨ (s.bay b).state = .hold ∨
    (s.bay b).state = .full ∨ (s.bay b).state = .fault) : s.handLoss b = s := by
  obtain idle | idle | idle | idle | idle := state <;> simp only [State.handLoss, idle]

/-- A FEEDING bay's feed goes to estimate mode (R60). -/
theorem handLoss_feeding (feeding : (s.bay b).state = .feeding) (held : s.feed b = some f) :
    s.handLoss b = (s.setFeed b (some { f with weightKept := false })).setBay b { s.bay b with book := f.bookFigure } := by
  simp only [State.handLoss, feeding, held]

theorem handLoss_closing (closing : (s.bay b).state = .closing) : s.handLoss b = (s.bookByEstimate b).leaveClosing b := by
  simp only [State.handLoss, closing]

/-- A booked feed waits for its close watch (R30). -/
theorem handLoss_booked (closing : (s.bay b).state = .closing) (held : s.feed b = some f) (booked : f.booked = true)
    (watch : (s.bay b).closeWatch ≠ none) : s.handLoss b = s := by
  rw [handLoss_closing closing, bookByEstimate_booked held booked, leaveClosing_watched watch]

/-- What a loss leaves of a CLOSING bay with an unbooked feed, before the records are written: net and book take the book
figure, and with the close confirmed the feed is freed and the bay goes to HOLD (R30, R81). -/
def State.closingLost (s : State) (b : BayIx) (f : Feed) : State :=
  if (s.bay b).closeWatch = none then
    (s.setFeed b none).setBay b { s.bay b with
      state := .hold, net := f.bookFigure, book := f.bookFigure, source := .estimated }
  else (s.setFeed b (some { f with weightKept := false, booked := true })).setBay b { s.bay b with
      net := f.bookFigure, book := f.bookFigure, source := .estimated }

/-- What is written last of a bay and of its feed stands. -/
theorem setBay_setFeed_again (s : State) (b : BayIx) (x y : Option Feed) (r q : Bay) :
    (((s.setBay b r).setFeed b x).setBay b q).setFeed b y = (s.setFeed b y).setBay b q :=
  calc (((s.setBay b r).setFeed b x).setBay b q).setFeed b y
      = (((s.setBay b r).setBay b q).setFeed b x).setFeed b y := rfl
    _ = (s.setFeed b y).setBay b q := by rw [State.setFeed_setFeed, State.setBay_setBay]; rfl

/-- An unbooked feed of a CLOSING bay is booked by its estimate, whether or not its close is confirmed (R81). -/
theorem handLoss_unbooked (closing : (s.bay b).state = .closing) (held : s.feed b = some f) (unbooked : f.booked = false)
    (lost : (s.channel b).state ≠ .ok) :
    s.handLoss b = (s.closingLost b f).bookTold f (estimatedGain f.estimate) := by
  rw [handLoss_closing closing, bookByEstimate_unbooked held unbooked]
  generalize figured : (s.setBay b { s.bay b with
    net := f.bookFigure, book := f.bookFigure, source := .estimated }).setFeed b
      (some { f with weightKept := false, booked := true }) = t
  have told := bookTold_reaches t f (estimatedGain f.estimate)
  have bay : t.bay b = { s.bay b with net := f.bookFigure, book := f.bookFigure, source := .estimated } := by
    rw [← figured, State.setFeed_bay, State.setBay_bay]
  have kept : (t.bookTold f (estimatedGain f.estimate)).feed b = some { f with weightKept := false, booked := true } := by
    rw [told.feed b id, ← figured, State.setFeed_feed]
  have channel : (t.bookTold f (estimatedGain f.estimate)).channel b = s.channel b := by
    rw [told.channel b id, ← figured]
    rfl
  unfold State.closingLost
  by_cases watch : (s.bay b).closeWatch = none
  · rw [leaveClosing_freed kept rfl (by rw [bookTold_bay, bay]; exact closing) (by rw [bookTold_bay, bay]; exact watch),
      enterService_hold (by rw [channel]; exact lost), bookTold_setState, bookTold_setFeed, if_pos watch, bay, ← figured]
    rw [setBay_setFeed_again]
  · rw [leaveClosing_watched (by rw [bookTold_bay, bay]; exact watch), if_neg watch, ← figured]
    rfl

end handed

/-- A loss by each of its causes: an invalid sample, or a silence deadline that has passed (R45, R46, R47). -/
theorem exec_lossCause {s : State} {b : BayIx} {arrival : Nat} (run : s.inReset = false) {p : Instr × State}
    (cause : p ∈ [(Instr.sample b .converterFault, s), (.sample b (.code 16777215), s)]
      ++ (if (s.channel b).silence.any (fun d => decide (d ≤ max s.now arrival)) then
        [(.silenceDeadline b arrival, s.advance arrival)] else [])) :
    ∃ a, p.2 = s.advance a ∧ exec p.1 s = .next ((s.advance a).invalidSample b) := by
  have here : s.advance 0 = s := by simp [State.advance]
  obtain sample | silent := List.mem_append.mp cause
  · refine ⟨0, ?_⟩
    obtain rfl | rfl : p = (.sample b .converterFault, s) ∨ p = (.sample b (.code 16777215), s) := by simpa using sample
    · exact ⟨here.symm, by rw [here]; exact live_running _ s run⟩
    · exact ⟨here.symm, by rw [here]; exact live_running _ s run⟩
  · split at silent
    next reached =>
      obtain rfl := List.mem_singleton.mp silent
      refine ⟨arrival, rfl, (live_running _ s run).trans (congrArg _ (if_pos ?_))⟩
      rw [passed_eq_any]
      exact reached
    next => exact absurd silent List.not_mem_nil

/-- Settles O41: whatever the cause, a loss from an OK channel is handed to the bay by its state. -/
theorem channelIsLost : Obligations.ChannelIsLost := by
  intro s b arrival run
  refine ⟨fun ahead => ?_, fun p cause => ?_⟩
  · refine (live_running (passSilence b arrival) s run).trans (congrArg _ (if_neg ?_))
    rw [passed_eq_any]
    exact ne_true_of_eq_false ahead
  · obtain ⟨a, after, causes⟩ := exec_lossCause run cause
    obtain ⟨c, t⟩ := p
    subst after
    refine ⟨fun other => causes.trans (congrArg _ (if_neg other)), fun ok => ?_⟩
    have lost := causes.trans (congrArg _ (invalidSample_ok (s := s.advance a) ok))
    have handed : ∀ {t : State}, ((s.advance a).channelLost b).handLoss b = t → exec c s = .next t :=
      fun e => lost.trans (congrArg _ e)
    refine ⟨fun state => handed (handLoss_settled state), fun state => handed (handLoss_idle state), fun f held =>
      ⟨fun feeding => handed (handLoss_feeding feeding held), fun closing booked watch =>
        handed (handLoss_booked closing held booked watch), fun closing unbooked => ?_⟩⟩
    exact estimateBooked (by split <;> rfl) (fun _ => by split <;> rfl) (handed (handLoss_unbooked closing held unbooked
      (by rw [channelLost_channel]; exact nofun)))

end Sys2Proof.Machine
end

section
namespace Sys2Proof.Machine

/-! ## A millisecond on an empty queue (R39, R46, R54, R72, R148, R154 to R157) -/

/-- A condition of the model and a proposition that say the same make the same command due. -/
theorem dueIf_eq {c : Bool} {p : Prop} [Decidable p] (h : c = true ↔ p) (i : Instr) :
    dueIf c i = if p then [i] else [] := if_congr h rfl rfl

section

variable (s : State)

/-- Only a window in phase WAIT has a settle deadline that counts (R53, R54). -/
theorem settleDeadline?_eq (b : BayIx) : s.settleDeadline? b =
    (s.channel b).window.bind (fun w => if w.phase = .wait then w.settleDeadline else none) := by
  unfold State.settleDeadline?
  cases (s.channel b).window <;> rfl

theorem writeDeadline?_eq : s.writeDeadline? = s.store.op.endsBy := by
  unfold State.writeDeadline?
  cases s.store.op <;> rfl

/-- A reselection times out while its SELECT_ACK is awaited (R155). -/
theorem passed_reselectionDeadline_iff : s.passed s.reselectionDeadline? = true ↔
    s.pli.line = .selecting ∧ s.pli.conn ≠ none ∧ s.pli.selectDeadline.any (fun d => decide (d ≤ s.now)) = true := by
  rw [passed_eq_any, State.reselectionDeadline?]
  split
  next awaited =>
    obtain ⟨line, conn⟩ := awaited
    exact ⟨fun due => ⟨line, Option.isSome_iff_ne_none.mp conn, due⟩, fun ⟨_, _, due⟩ => due⟩
  next other => exact ⟨nofun, fun ⟨line, conn, _⟩ => absurd ⟨line, Option.isSome_iff_ne_none.mpr conn⟩ other⟩

theorem partnersTurn_iff (c : Conn) : c.partnersTurn = true ↔ c.kind = .master ∧ c.turn = .partner := by
  simp [Conn.partnersTurn]

/-- A turn times out in the partner's turn of a MASTER connection (R156). -/
theorem passed_turnDeadline_iff : s.passed s.turnDeadline? = true ↔
    ∃ c ∈ s.pli.conn, s.pli.line = .connected ∧ c.kind = .master ∧ c.turn = .partner ∧
      c.deadline.any (fun d => decide (d ≤ s.now)) = true := by
  rw [passed_eq_any, State.turnDeadline?, State.openConn]
  by_cases line : s.pli.line = .connected
  · rw [if_pos line]
    cases s.pli.conn with
    | none => exact ⟨nofun, nofun⟩
    | some c =>
      by_cases turn : c.partnersTurn = true
      · obtain ⟨master, partner⟩ := (partnersTurn_iff c).mp turn
        simp [turn, line, master, partner]
      · have other := mt (partnersTurn_iff c).mpr turn
        simp only [if_neg turn]
        exact ⟨nofun, fun ⟨_, rfl, _, master, partner, _⟩ => absurd ⟨master, partner⟩ other⟩
  · rw [if_neg line]
    exact ⟨nofun, fun ⟨_, _, connected, _⟩ => absurd connected line⟩

theorem wantsLine_iff : s.wantsLine = true ↔ s.pli.line = .free ∧ s.pli.delivery ≠ [] := by
  simp [State.wantsLine]

theorem hasWon_iff : s.hasWon = true ↔
    s.pli.line = .selecting ∧ s.pli.winner = some 0 ∧ s.pli.conn = none ∧ s.pli.acking = none := by
  simp only [State.hasWon, Bool.and_eq_true, beq_iff_eq, following_iff, and_assoc]

end

/-- Outside reset a tick moves the clock, drops a claim that is over and queues what is due (logs 2, 3). -/
theorem tick_running {s : State} (run : s.inReset = false) :
    tick s = { ({ s with now := s.now + 1 } : State).dropClaim with
      pending := ({ s with now := s.now + 1 } : State).dropClaim.pending ++
        ({ s with now := s.now + 1 } : State).dropClaim.dueCommands } :=
  if_neg (Bool.eq_false_iff.mp run)

/-- Settles O2: each part of the queue is one deadline or wish of the state as the clock reaches the next millisecond. -/
theorem timePassesOnEmptyQueue : Obligations.TimePassesOnEmptyQueue := by
  intro s empty now reached settle perBay whenever
  have stepped : step s = .next (tick s) := by rw [step, empty]
  refine ⟨fun reset => stepped.trans (congrArg _ (if_pos reset)), fun run => ?_⟩
  rw [stepped, tick_running run, dropClaim_eq]
  simp only [State.dueCommands, flatMap_dueIf, dueIf_eq (passed_reselectionDeadline_iff _),
    dueIf_eq (passed_turnDeadline_iff _), dueIf_eq (wantsLine_iff _), dueIf_eq (hasWon_iff _)]
  simp only [passed_eq_any, settleDeadline?_eq, writeDeadline?_eq, State.setPli_pending, empty, List.nil_append]
  rfl

end Sys2Proof.Machine
end

section
namespace Sys2Proof.Machine

/-! ## FEED_PROGRESS (R60, R69, R71) -/

section

variable {s : State} {n : Node} {b : BayIx} {f : Feed}

theorem runningFeed_unowned (free : s.ownedBay n = none) : s.runningFeed n = none := by
  simp only [State.runningFeed, State.ownedFeed, free]

theorem runningFeed_owned (owned : s.ownedBay n = some b) (held : s.feed b = some f) :
    s.runningFeed n = if f.state = .feeding then some (b, f) else none := by
  simp only [State.runningFeed, State.ownedFeed, owned, held, Option.map_some]

theorem endedAnswer_absent (absent : (s.node n).outcome = none) : endedAnswer s n = refuse s .noFeed := by
  simp only [endedAnswer, absent]

theorem endedAnswer_present {o : FeedOutcome} (present : (s.node n).outcome = some o) :
    endedAnswer s n = { state := s, status := .feedEnded, body := .outcome o } := by
  simp only [endedAnswer, present]

theorem ownFeedProgress_ended (ended : s.runningFeed n = none) (flow : Nat) :
    ownFeedProgress n flow s = endedAnswer s n := by
  simp only [ownFeedProgress, ended]

/-- With the channel OK an estimate changes the feed alone (R60, R69). -/
theorem storeEstimate_weighed (ok : (s.channel b).state = .ok) (f : Feed) :
    s.storeEstimate b f = s.setFeed b (some f) := by
  simp [State.storeEstimate, State.estimateMode, ok]

/-- With the channel out an estimate works out the book as well (R60, R69). -/
theorem storeEstimate_unweighed (out : (s.channel b).state ≠ .ok) (f : Feed) :
    s.storeEstimate b f = (s.setFeed b (some f)).setBay b { s.bay b with book := f.bookFigure } := by
  simp [State.storeEstimate, State.estimateMode, out]

/-- Max fill of a bay with a vessel (R22, R23). -/
theorem maxFill_vessel {r : Bay} {v : Vessel} (vessel : r.vessel = some v) :
    r.maxFill = some (v.capacity * fillDensity v.cls) := by
  simp only [Bay.maxFill, vessel, Option.map_some]

/-- With the channel OK the reply carries the live headroom of the last sample (R51, R69). -/
theorem ownFeedProgress_weighed {v : Vessel} (running : s.runningFeed n = some (b, f)) (ok : (s.channel b).state = .ok)
    (vessel : (s.bay b).vessel = some v) (flow : Nat) :
    ownFeedProgress n flow s =
      { state := s.setFeed b (some { f with
          estimate := 10 * flow, holdDeadline := some (s.now + 1000 * s.params.holdTime) })
        status := .ok
        body := .progress (min 65535 ((v.capacity * fillDensity v.cls - ((s.channel b).lastGross - v.tare)) / 10))
          false } := by
  have mode (x : Option Feed) : (s.setFeed b x).estimateMode b = false := by
    simp [State.estimateMode, ok]
  simp only [ownFeedProgress, running, storeEstimate_weighed ok, mode, Bool.false_and, Bool.false_eq_true, if_false,
    State.liveHeadroom10, State.liveNet, State.setFeed_bay, State.setFeed_channel, maxFill_vessel vessel, vessel,
    Option.map_some, Option.getD_some]

/-- With the channel out and the book below max fill the reply carries the headroom above the book (R60, R69). -/
theorem ownFeedProgress_unweighed {v : Vessel} (running : s.runningFeed n = some (b, f))
    (out : (s.channel b).state ≠ .ok) (vessel : (s.bay b).vessel = some v) (flow : Nat)
    (below : min 1000000 (f.startNet + 10 * flow) < v.capacity * fillDensity v.cls) :
    ownFeedProgress n flow s =
      { state := (s.setFeed b (some { f with
          estimate := 10 * flow, holdDeadline := some (s.now + 1000 * s.params.holdTime) })).setBay b
            { s.bay b with book := min 1000000 (f.startNet + 10 * flow) }
        status := .ok
        body := .progress (min 65535
          ((v.capacity * fillDensity v.cls - min 1000000 (f.startNet + 10 * flow)) / 10)) true } := by
  have mode (x : Option Feed) (r : Bay) : ((s.setFeed b x).setBay b r).estimateMode b = true := by
    simp [State.estimateMode, out]
  have filled : { s.bay b with book := min 1000000 (f.startNet + 10 * flow) }.maxFill
      = some (v.capacity * fillDensity v.cls) := maxFill_vessel vessel
  simp only [ownFeedProgress, running, storeEstimate_unweighed out, Feed.bookFigure, mode, State.bookFull,
    State.setBay_bay, filled, Option.getD_some, decide_eq_false (Nat.not_le.mpr below), Bool.and_false,
    Bool.false_eq_true, if_false, State.liveHeadroom10, if_true]

end

/-- The stations and the foam lines may send FEED_PROGRESS (R167). -/
theorem permitted_feedProgress {n : Node} (role : roleOf n ≠ .supervisory) :
    permitted .feedProgress (roleOf n) = true := by
  cases sender : roleOf n with
  | station => rfl
  | foamLine => rfl
  | supervisory => exact absurd sender role

/-- Settles O16: the owner's answer by its feed, none, CLOSING or FEEDING, and by the channel of a FEEDING one. -/
theorem feedProgressRenews : Obligations.FeedProgressRenews := by
  intro s n tag flow run role
  have answered {r : Taken} (answer : ownFeedProgress n flow s = r) :=
    live_take (tag := tag) run (permitted_feedProgress role) answer
  have ended (idle : s.runningFeed n = none) := ownFeedProgress_ended idle flow
  refine ⟨fun free absent => ?_, fun free o present => ?_, fun b owned f held => ?_⟩
  · exact answered ((ended (runningFeed_unowned free)).trans (endedAnswer_absent absent))
  · exact answered ((ended (runningFeed_unowned free)).trans (endedAnswer_present present))
  have running := runningFeed_owned owned held
  refine ⟨fun closing o present => ?_, fun feeding v vessel => ?_⟩
  · rw [closing, if_neg nofun] at running
    exact answered ((ended running).trans (endedAnswer_present present))
  · rw [if_pos feeding] at running
    exact ⟨fun ok => answered (ownFeedProgress_weighed running ok vessel flow),
      fun out below => answered (ownFeedProgress_unweighed running out vessel flow below)⟩

end Sys2Proof.Machine
end

section
namespace Sys2Proof.Machine

/-! ## Grams of a raw code (R50) -/

/-- A code below the zero weighs nothing and sets the under flag. -/
theorem grossOf_below {raw zeroAt : Nat} (below : raw < zeroAt) (scale : Nat) : grossOf raw zeroAt scale = (0, true) :=
  if_neg (Nat.not_le.mpr below)

theorem grossOf_above {raw zeroAt : Nat} (above : zeroAt ≤ raw) (scale : Nat) :
    grossOf raw zeroAt scale = (min 1000000 (divRound ((raw - zeroAt) * scale) 65536), false) := if_pos above

/-- Rounding half up, as bounds on the quotient. -/
theorem divRound_bounds (a : Nat) {b : Nat} (pos : 0 < b) :
    2 * b * divRound a b ≤ 2 * a + b ∧ 2 * a + b < 2 * b * (divRound a b + 1) :=
  ⟨Nat.mul_div_le _ _, Nat.lt_mul_div_succ _ (by omega)⟩

/-! ## Samples on a channel that is not OK (R27, R45, R49, R60) -/

section

variable {s : State} {b : BayIx} {raw : Nat} (run : s.inReset = false) (valid : raw < 16777215)
  (out : (s.channel b).state ≠ .ok)

include run valid out

/-- A sample of a run shorter than ten is heard and nothing more (R45). -/
theorem exec_earlySample (early : (s.channel b).validRun < 9) :
    exec (.sample b (.code raw)) s = .next (s.setChannel b ((s.channel b).heard s.now
      (grossOf raw (s.bay b).zero (s.bay b).scale).1 (grossOf raw (s.bay b).zero (s.bay b).scale).2)) := by
  refine (live_running _ s run).trans (congrArg _ ?_)
  simp only [takeSample, if_pos valid, State.validSample, if_neg out, if_neg (Nat.not_le.mpr early)]

/-- The tenth sample brings the channel back, and the overfill watch looks at it (R45, R49, R52). -/
theorem exec_tenthSample (tenth : 9 ≤ (s.channel b).validRun) :
    exec (.sample b (.code raw)) s = .next (((s.setChannel b ((s.channel b).heard s.now
      (grossOf raw (s.bay b).zero (s.bay b).scale).1
        (grossOf raw (s.bay b).zero (s.bay b).scale).2)).returnChannel b).watchOverfill b) := by
  refine (live_running _ s run).trans (congrArg _ ?_)
  simp only [takeSample, if_pos valid, State.validSample, if_neg out, if_pos tenth]

end

section

variable {s : State} {b : BayIx} (c : Channel)

/-- A bay that is neither in HOLD nor FEEDING takes no notice of its channel's return (R27, R49). -/
theorem returnChannel_other (hold : (s.bay b).state ≠ .hold) (feeding : (s.bay b).state ≠ .feeding) :
    (s.setChannel b c).returnChannel b = s.setChannel b { c with state := .ok } := by
  simp only [State.returnChannel, State.setChannel_channel, State.setChannel_setChannel, State.setChannel_bay]

/-- A HOLD bay enters service with its channel's return (R27). -/
theorem returnChannel_hold (hold : (s.bay b).state = .hold) :
    (s.setChannel b c).returnChannel b = (s.setBay b { s.bay b with state := .settling }).setChannel b { c with
      state := .ok, window := some (Window.opened .baseline s.now s.params.settleTime) } := by
  have service := enterService_settling (s := s.setChannel b { c with state := .ok }) (b := b)
    (congrArg Channel.state (State.setChannel_channel s b _))
  have swap (t : State) (x : Channel) (r : Bay) : (t.setChannel b x).setBay b r = (t.setBay b r).setChannel b x := rfl
  rw [swap, State.setChannel_setChannel, State.setChannel_channel] at service
  simp only [State.returnChannel, State.setChannel_channel, State.setChannel_setChannel, State.setChannel_bay, hold]
  exact service

/-- A FEEDING bay's feed leaves estimate mode, with book at net (R49, R60). -/
theorem returnChannel_feeding {f : Feed} (feeding : (s.bay b).state = .feeding) (held : s.feed b = some f) :
    (s.setChannel b c).returnChannel b =
      ((s.setChannel b { c with state := .ok }).setFeed b (some { f with weightKept := true })).setBay b
        { s.bay b with book := (s.bay b).net } := by
  simp only [State.returnChannel, State.setChannel_channel, State.setChannel_setChannel, State.setChannel_bay, feeding,
    State.setChannel_feed, held]

end

/-- Settles O36: the arithmetic of R50, and a sample before the tenth or the tenth by the state of the bay. -/
theorem samplesOpenChannel : Obligations.SamplesOpenChannel := by
  intro s b raw zeroAt scale
  refine ⟨fun below => grossOf_below below scale, fun above => ?_, fun run valid out => ?_⟩
  · obtain ⟨low, high⟩ := divRound_bounds ((raw - zeroAt) * scale) (b := 65536) (by decide)
    rw [grossOf_above above]
    generalize divRound ((raw - zeroAt) * scale) 65536 = q at low high
    generalize (raw - zeroAt) * scale = a at low high
    exact ⟨rfl, by dsimp only; omega⟩
  intro heard
  have tenth := exec_tenthSample run valid out
  refine ⟨exec_earlySample run valid out, fun ten hold feeding => ?_, fun ten hold => ?_,
    fun ten feeding f held v vessel => ?_⟩
  · rw [tenth ten, returnChannel_other _ hold feeding, watchOverfill_idle (by exact feeding)]
    rfl
  · rw [tenth ten, returnChannel_hold _ hold, watchOverfill_idle (by simp)]
    rfl
  · intro weighs back live
    have returned := (tenth ten).trans
      (congrArg (fun t : State => Host.Outcome.next (t.watchOverfill b)) (returnChannel_feeding _ feeding held))
    have ok : (back.channel b).state = .ok := congrArg Channel.state (State.setChannel_channel s b _)
    have gross : (back.channel b).lastGross = (grossOf raw (s.bay b).zero (s.bay b).scale).1 :=
      congrArg Channel.lastGross (State.setChannel_channel s b _)
    have bay : back.bay b = { s.bay b with book := (s.bay b).net } := State.setBay_bay _ b _
    have fed : back.feed b = some weighs := State.setFeed_feed _ b _
    have watched := watchOverfill_feeding (s := back) (b := b) (v := v) (by rw [bay]; exact feeding)
      (by rw [bay]; exact vessel)
    rw [gross] at watched
    refine ⟨fun below => ?_, fun reached feeds => ?_⟩
    · rw [if_neg (Nat.not_le.mpr below)] at watched
      exact returned.trans (congrArg _ watched)
    · rw [if_pos reached, endFeed_weighed (c := .full) fed feeds ok ⟨nofun, nofun⟩] at watched
      exact returned.trans (congrArg _ watched)

end Sys2Proof.Machine
end

section
namespace Sys2Proof.Machine

/-! ## FEED_OPEN (R66, R67, R88, R89) -/

theorem flammable_iff (g : GasClass) : flammable g = true ↔ g = .hc ∨ g = .mx := by
  cases g <;> simp [flammable]

/-- What a bay's vessel accepts, in the form of the statements (R23). -/
theorem bayAccepts_iff {s : State} {b : BayIx} {g : GasClass} :
    s.bayAccepts b g = true ↔ ∃ v ∈ (s.bay b).vessel, v.cls = g ∨ v.cls = .mx := by
  unfold State.bayAccepts
  cases (s.bay b).vessel <;> simp [accepts_iff]

/-- A request may wait for a bay that accepts its gas and may yet come to READY (R88). -/
theorem mayWait_iff {s : State} {g : GasClass} : s.mayWait g = true ↔
    ∃ b : BayIx, ∃ v ∈ (s.bay b).vessel, (v.cls = g ∨ v.cls = .mx) ∧
      ((s.bay b).state = .feeding ∨ (s.bay b).state = .closing ∨ (s.bay b).state = .settling ∨
        (s.bay b).state = .hold) := by
  simp only [State.mayWait, List.any_eq_true, mem_allBays, true_and, Bool.and_eq_true, bayAccepts_iff, Bool.or_eq_true,
    beq_iff_eq, or_assoc]
  exact exists_congr fun b => ⟨fun ⟨⟨v, vessel, fits⟩, busy⟩ => ⟨v, vessel, fits, busy⟩,
    fun ⟨v, vessel, fits, busy⟩ => ⟨⟨v, vessel, fits⟩, busy⟩⟩

section

variable {s : State} {n : Node} {tag : Nat} {k : ReqKind} {g : GasClass} {w : WaitPurpose}

theorem askFeed_estop (stop : s.interlock.estop = true) : s.askFeed n tag k g w = refuse s .estop := if_pos stop

theorem askFeed_permitOff (clear : s.interlock.estop = false) (burns : g = .hc ∨ g = .mx) (off : s.permitOn = false) :
    s.askFeed n tag k g w = refuse s .permitOff := by
  simp [State.askFeed, clear, (flammable_iff g).mpr burns, off]

/-- Gas that no interlock holds back goes to the Wait List's decision (R66, R88). -/
theorem askFeed_allowed (clear : s.interlock.estop = false) (permit : g = .hc ∨ g = .mx → s.permitOn = true) :
    s.askFeed n tag k g w = s.decideFeed n tag k g w := by
  have allowed : ¬(flammable g && !s.permitOn) = true := by
    rw [Bool.and_eq_true, flammable_iff]
    rintro ⟨burns, off⟩
    simp [permit burns] at off
  simp only [State.askFeed, clear, Bool.false_eq_true, if_false, if_neg allowed]

theorem decideFeed_granted {b : BayIx} {v : Vessel} (chosen : s.chooseVessel g = some b)
    (vessel : (s.bay b).vessel = some v) : s.decideFeed n tag k g w =
      { state := s.grant b n w g, status := .ok
        body := .grant b v.id (v.capacity * fillDensity v.cls - (s.bay b).net) } := by
  simp only [State.decideFeed, chosen, State.grantBody, grantBody_some vessel]

theorem decideFeed_noVessel (unchosen : s.chooseVessel g = none) (idle : s.mayWait g = false) :
    s.decideFeed n tag k g w = refuse s .noVessel := by
  simp only [State.decideFeed, unchosen, idle, Bool.false_eq_true, if_false]

theorem decideFeed_waits (unchosen : s.chooseVessel g = none) (busy : s.mayWait g = true) :
    s.decideFeed n tag k g w = { state := s.waiting n tag k g w, status := .deferred } := by
  simp only [State.decideFeed, unchosen, busy, if_true]
  rfl

end

theorem ownFeedOpen_noUnit {s : State} {n : Node} (idle : s.boundUnit n = none) (tag : Nat) :
    ownFeedOpen n tag s = refuse s .noUnit := by
  simp only [ownFeedOpen, idle]

section

variable {s : State} {n : Node} {u : UnitRec} (bound : s.boundUnit n = some u)
include bound

theorem ownFeedOpen_feedActive (active : s.ownedBay n ≠ none) (tag : Nat) :
    ownFeedOpen n tag s = refuse s .feedActive := by
  simp only [ownFeedOpen, bound, if_pos (Option.isSome_iff_ne_none.mpr active)]

variable (free : s.ownedBay n = none)
include free

theorem ownFeedOpen_slotBusy (busy : (s.node n).slot ≠ .empty) (tag : Nat) :
    ownFeedOpen n tag s = refuse s .slotBusy := by
  simp only [ownFeedOpen, bound, free, Option.isSome_none, Bool.false_eq_true, if_false, if_pos busy]

/-- A free station with an empty slot asks for its unit's class (R66). -/
theorem ownFeedOpen_asks {g : GasClass} (empty : (s.node n).slot = .empty) (identified : u.identRefr = some g)
    (tag : Nat) : ownFeedOpen n tag s = s.askFeed n tag .feedOpen g (.unit u.tag) := by
  simp only [ownFeedOpen, bound, free, Option.isSome_none, Bool.false_eq_true, if_false, empty, ne_eq, not_true,
    identified]

end

/-- The stations may send FEED_OPEN and FEED_CLOSE (R167). -/
theorem permitted_feedOpen {n : Node} (role : roleOf n = .station) : permitted .feedOpen (roleOf n) = true := by
  rw [role]
  rfl

theorem permitted_feedClose {n : Node} (role : roleOf n = .station) : permitted .feedClose (roleOf n) = true := by
  rw [role]
  rfl

/-- Settles O14: the checks pass, the gas is allowed, and the choice is granted. -/
theorem feedOpenGrants : Obligations.FeedOpenGrants := by
  intro s n tag run role u bound g identified free empty clear permit b chosen v vessel
  have asks := (ownFeedOpen_asks bound free empty identified tag).trans (askFeed_allowed clear permit)
  have granted := asks.trans (decideFeed_granted chosen vessel)
  rw [grant_spec] at granted
  exact live_take run (permitted_feedOpen role) granted

/-- Settles O15: the refusals in the order of the checks, and then whether some bay is worth waiting for. -/
theorem feedOpenRefusedOrWaits : Obligations.FeedOpenRefusedOrWaits := by
  intro s n tag run role
  have answered {r : Taken} (answer : ownFeedOpen n tag s = r) :=
    live_take (tag := tag) run (permitted_feedOpen role) answer
  refine ⟨fun idle => answered (ownFeedOpen_noUnit idle tag), fun u bound g identified => ⟨?_, ?_, ?_, ?_, ?_⟩⟩
  · exact fun active => answered (ownFeedOpen_feedActive bound active tag)
  · exact fun free busy => answered (ownFeedOpen_slotBusy bound free busy tag)
  · exact fun free empty stop =>
      answered ((ownFeedOpen_asks bound free empty identified tag).trans (askFeed_estop stop))
  · exact fun free empty clear burns off =>
      answered ((ownFeedOpen_asks bound free empty identified tag).trans (askFeed_permitOff clear burns off))
  intro free empty clear permit unchosen
  have decided := (ownFeedOpen_asks bound free empty identified tag).trans (askFeed_allowed clear permit)
  refine ⟨fun idle => ?_, fun busy => answered (decided.trans (decideFeed_waits unchosen (mayWait_iff.mpr busy)))⟩
  have hopeless : s.mayWait g = false := Bool.eq_false_iff.mpr fun busy => by
    obtain ⟨b, v, vessel, fits, busy⟩ := mayWait_iff.mp busy
    obtain ⟨feeding, closing, settling, hold⟩ := idle b v vessel fits
    simp [feeding, closing, settling, hold] at busy
  exact answered (decided.trans (decideFeed_noVessel unchosen hopeless))

end Sys2Proof.Machine
end

section
namespace Sys2Proof.Machine

/-! ## The end of a feed, whatever its cause (R28, R74, R75, R81) -/

/-- The end of a feed on its bay, its valve and its owner's outcome field (R74, steps 1 to 4). -/
def State.feedStopped (s : State) (b : BayIx) (f : Feed) (c : EndCause) : State :=
  ((s.setFeed b (some (f.ended c))).closeBay b).modOutcome f.owner (fun o => { o with
    endCause := some c, settled := false })

/-- Batch and alarms are told of an end in either order (R74, steps 5 and 6). -/
theorem feedEnded_eq (s : State) (b : BayIx) (f : Feed) (c : EndCause) :
    s.feedEnded b f c = ((s.feedStopped b f c).purposeEnds f.purpose c).endAlarm f.owner c := by
  unfold State.feedEnded State.feedStopped
  rw [endOfSegment_eq]
  cases f.purpose <;> cases c <;> rfl

theorem feedStopped_bay (s : State) (b : BayIx) (f : Feed) (c : EndCause) : (s.feedStopped b f c).bay b =
    { s.bay b with state := .closing, closeWatch := if s.switch b then none else some (s.now + 2000) } :=
  State.setBay_bay _ b _

theorem endAlarm_bay (s : State) (n : Node) (c : EndCause) (b : BayIx) : (s.endAlarm n c).bay b = s.bay b := by
  cases c <;> rfl

theorem endAlarm_node (s : State) (n : Node) (c : EndCause) (m : Node) : (s.endAlarm n c).node m = s.node m := by
  cases c <;> rfl

theorem endAlarm_line (s : State) (n : Node) (c : EndCause) (l : FoamLine) : (s.endAlarm n c).line l = s.line l := by
  cases c <;> rfl

theorem endAlarm_openWindow (s : State) (n : Node) (c : EndCause) (b : BayIx) (w : WindowPurpose) :
    (s.endAlarm n c).openWindow b w = (s.openWindow b w).endAlarm n c := by
  cases c <;> rfl

theorem feedEnded_bay (s : State) (b : BayIx) (f : Feed) (c : EndCause) : (s.feedEnded b f c).bay b =
    { s.bay b with state := .closing, closeWatch := if s.switch b then none else some (s.now + 2000) } := by
  rw [feedEnded_eq, endAlarm_bay, purposeEnds_bay, feedStopped_bay]

/-- With the channel OK the close watch runs, or the FEED_END window opens where the switch reads closed (R28). -/
theorem feedStopped_endsWeighed (s : State) (b : BayIx) (f : Feed) (c : EndCause) :
    (if s.switch b then (s.feedStopped b f c).openWindow b .feedEnd else s.feedStopped b f c)
      = s.endsWeighed b f c := by
  unfold State.feedStopped State.endsWeighed State.closeBay
  cases closed : s.switch b <;> simp only [State.setFeed_switch, closed, Bool.false_eq_true, if_true, if_false] <;> rfl

/-- A feed that ends with the channel OK, for any cause (R74). -/
theorem endFeed_ok {s : State} {b : BayIx} {f : Feed} (c : EndCause) (held : s.feed b = some f)
    (feeding : f.state = .feeding) (ok : (s.channel b).state = .ok) :
    s.endFeed b c = ((s.endsWeighed b f c).purposeEnds f.purpose c).endAlarm f.owner c := by
  have channel : ((s.feedEnded b f c).channel b).state = .ok := by rw [(feedEnded_at s b f c).2.2, ok]
  have ended : s.endFeed b c =
      if s.switch b then (s.feedEnded b f c).openWindow b .feedEnd else s.feedEnded b f c := by
    simp only [State.endFeed, held, if_pos feeding]
    refine (if_pos channel).trans (if_congr ?_ rfl rfl)
    refine (iff_of_eq (congrArg (·.closeWatch = none) (feedEnded_bay s b f c))).trans ?_
    cases s.switch b <;> simp
  rw [ended, feedEnded_eq, endAlarm_openWindow, purposeEnds_openWindow, ← feedStopped_endsWeighed]
  split <;> rfl

/-- What the end of a feed with the channel out leaves before its estimate reaches the records: what `endsUnweighed`
gives, with the gain not yet told to the owner (R30, R74, R81). -/
def State.feedLost (s : State) (b : BayIx) (f : Feed) (c : EndCause) : State :=
  let s1 := (s.setValve b false).modOutcome f.owner (fun o => { o with endCause := some c, settled := false })
  if s.switch b then
    (s1.setFeed b none).setBay b { s.bay b with
      state := .hold, closeWatch := none, net := f.bookFigure, book := f.bookFigure, source := .estimated }
  else
    (s1.setFeed b (some { f.ended c with weightKept := false, booked := true })).setBay b { s.bay b with
      state := .closing, closeWatch := some (s.now + 2000), net := f.bookFigure, book := f.bookFigure,
      source := .estimated }

theorem feedStopped_closingLost (s : State) (b : BayIx) (f : Feed) (c : EndCause) :
    (s.feedStopped b f c).closingLost b (f.ended c) = s.feedLost b f c := by
  have again (x : Option Feed) (q : Bay) : ((s.feedStopped b f c).setFeed b x).setBay b q
      = (((s.setValve b false).modOutcome f.owner (fun o => { o with endCause := some c, settled := false })).setFeed b
        x).setBay b q := setBay_setFeed_again ((s.setValve b false).modOutcome f.owner (fun o => { o with
      endCause := some c, settled := false })) b (some (f.ended c)) x { s.bay b with
        state := .closing, closeWatch := if s.switch b then none else some (s.now + 2000) } q
  unfold State.closingLost State.feedLost
  rw [feedStopped_bay]
  cases closed : s.switch b <;> simp only [Bool.false_eq_true, if_true, if_false, reduceCtorEq, again] <;> rfl

/-- The owner is told of the end and of the gain in one (R74, R81). -/
theorem feedLost_gainTold (s : State) (b : BayIx) (f : Feed) (c : EndCause) :
    (s.feedLost b f c).gainTold f.owner f.estimate true = s.endsUnweighed b f c := by
  have told (t : State) : (t.modOutcome f.owner (fun o => { o with endCause := some c, settled := false })).gainTold
      f.owner f.estimate true = t.setNode f.owner { t.node f.owner with
        outcome := (t.node f.owner).outcome.map (fun o => { o with
          endCause := some c, settled := true, gain := some f.estimate, estimated := true }) } := by
    simp only [modOutcome_spec, State.gainTold, State.setNode_node, State.setNode_setNode, Option.map_map]
    rfl
  have told := told (s.setValve b false)
  unfold State.feedLost State.endsUnweighed
  cases s.switch b
  · exact congrArg (fun t : State => (t.setFeed b _).setBay b _) told
  · exact congrArg (fun t : State => (t.setFeed b none).setBay b _) told

/-- Batch and alarms may as well be told of an end last. -/
theorem closingLost_purposeEnds (s : State) (p : FeedPurpose) (c : EndCause) (b : BayIx) (f : Feed) :
    (s.purposeEnds p c).closingLost b f = (s.closingLost b f).purposeEnds p c := by
  unfold State.closingLost
  rw [purposeEnds_bay]
  cases p <;> split <;> rfl

theorem closingLost_endAlarm (s : State) (n : Node) (c : EndCause) (b : BayIx) (f : Feed) :
    (s.endAlarm n c).closingLost b f = (s.closingLost b f).endAlarm n c := by
  unfold State.closingLost
  rw [endAlarm_bay]
  cases c <;> split <;> rfl

/-- A feed that ends with the channel out is booked by its estimate in the same step (R74, R81). -/
theorem endFeed_out {s : State} {b : BayIx} {f : Feed} (c : EndCause) (held : s.feed b = some f)
    (feeding : f.state = .feeding) (unbooked : f.booked = false) (out : (s.channel b).state ≠ .ok) :
    s.endFeed b c = (((s.feedLost b f c).purposeEnds f.purpose c).endAlarm f.owner c).bookTold f
      (estimatedGain f.estimate) := by
  obtain ⟨closing, kept, channel⟩ := feedEnded_at s b f c
  have lost : ((s.feedEnded b f c).channel b).state ≠ .ok := by rwa [channel]
  have ended : s.endFeed b c = (s.feedEnded b f c).handLoss b := by
    rw [handLoss_closing closing]
    simp only [State.endFeed, held, if_pos feeding]
    exact if_neg lost
  rw [ended, handLoss_unbooked closing kept unbooked lost]
  rw [feedEnded_eq, closingLost_endAlarm, closingLost_purposeEnds, feedStopped_closingLost]
  rfl

/-! ### The estimate in the records (R10, R81, R107, R122) -/

theorem gainTold_endAlarm (s : State) (n m : Node) (c : EndCause) (gain : Nat) (estimated : Bool) :
    (s.endAlarm m c).gainTold n gain estimated = (s.gainTold n gain estimated).endAlarm m c := by
  cases c <;> rfl

theorem modUnit_endAlarm (s : State) (n : Node) (c : EndCause) (unit : Nat) (f : UnitRec → UnitRec) :
    (s.endAlarm n c).modUnit unit f = (s.modUnit unit f).endAlarm n c := by
  cases c <;> rfl

theorem setLine_endAlarm (s : State) (n : Node) (c : EndCause) (l : FoamLine) (r : LineRec) :
    (s.endAlarm n c).setLine l r = (s.setLine l r).endAlarm n c := by
  cases c <;> rfl

theorem feedLost_modUnit (s : State) (b : BayIx) (f : Feed) (c : EndCause) (unit : Nat) (g : UnitRec → UnitRec) :
    (s.feedLost b f c).modUnit unit g = (s.modUnit unit g).feedLost b f c := by
  have switch : (s.modUnit unit g).switch b = s.switch b := rfl
  unfold State.feedLost
  rw [switch]
  split <;> rfl

theorem feedLost_line (s : State) (b : BayIx) (f : Feed) (c : EndCause) (l : FoamLine) :
    (s.feedLost b f c).line l = s.line l := by
  unfold State.feedLost
  split <;> rfl

theorem modOutcome_slot (s : State) (n : Node) (g : FeedOutcome → FeedOutcome) (m : Node) :
    ((s.modOutcome n g).node m).slot = (s.node m).slot := by
  rw [modOutcome_spec]
  by_cases same : m = n
  · rw [same, State.setNode_node]
  · rw [State.setNode_node_ne _ _ _ _ same]

/-- The end of a feed leaves the slots. -/
theorem feedLost_slot (s : State) (b : BayIx) (f : Feed) (c : EndCause) (m : Node) :
    ((s.feedLost b f c).node m).slot = (s.node m).slot := by
  unfold State.feedLost
  split
  · exact modOutcome_slot (s.setValve b false) _ _ m
  · exact modOutcome_slot (s.setValve b false) _ _ m

theorem purposeEnds_unit {p : FeedPurpose} (unfoamed : p.line? = none) (s : State) (c : EndCause) :
    s.purposeEnds p c = s := by
  cases p with
  | unit tag => rfl
  | batch l number k => exact absurd unfoamed nofun

theorem line?_of_unit? {p : FeedPurpose} {unit : Nat} (purpose : p.unit? = some unit) : p.line? = none := by
  cases p with
  | unit tag => rfl
  | batch l number k => exact absurd purpose nofun

theorem gainTold_setLine (s : State) (n : Node) (gain : Nat) (estimated : Bool) (l : FoamLine) (r : LineRec) :
    (s.setLine l r).gainTold n gain estimated = (s.gainTold n gain estimated).setLine l r := rfl

theorem batchDone_setNode (s : State) (l : FoamLine) (bt : Batch) (n : Node) (r : NodeRec) :
    (s.setNode n r).batchDone l bt = (s.batchDone l bt).setNode n r := by
  unfold State.batchDone
  rw [State.setNode_params]
  dsimp only
  split
  · rfl
  · split <;> rfl

/-- A gain is told to a node and a batch completed in either order. -/
theorem batchDone_gainTold (s : State) (l : FoamLine) (bt : Batch) (n : Node) (gain : Nat) (estimated : Bool) :
    (s.gainTold n gain estimated).batchDone l bt = (s.batchDone l bt).gainTold n gain estimated := by
  unfold State.gainTold
  rw [batchDone_setNode, batchDone_node]

/-- A completion makes the record SETTLED, whatever its state. -/
theorem batchDone_state (s : State) (l : FoamLine) (bt : Batch) (st : BatchState) :
    s.batchDone l { bt with state := st } = s.batchDone l bt := rfl

/-- The batch of a feed that has ended with the channel out, before its booking (R122). -/
theorem feedLost_purposeEnds {s : State} {f : Feed} {l : FoamLine} {bt : Batch} {k : Nat}
    (current : (s.line l).current = some bt) (batch : f.purpose = .batch l bt.number k) (b : BayIx) (c : EndCause) :
    (s.feedLost b f c).purposeEnds f.purpose c =
      (s.feedLost b f c).setLine l { s.line l with current := some (bt.endSegment k c) } := by
  have current' : ((s.feedLost b f c).line l).current = some bt := by rw [feedLost_line, current]
  rw [batch]
  refine (modCurrent_some current' _).trans ?_
  rw [feedLost_line, if_pos rfl]
  rfl

section

variable {s : State} {b : BayIx} {f : Feed} {c : EndCause} (held : s.feed b = some f) (feeding : f.state = .feeding)
  (unbooked : f.booked = false) (out : (s.channel b).state ≠ .ok)
  (silent : (s.node f.owner).slot.awaits .feedClose = false)
include held feeding unbooked out silent

/-- A unit's feed that ends with the channel out is booked to the unit (R81). -/
theorem endFeed_out_unit {unit : Nat} (purpose : f.purpose.unit? = some unit) :
    s.endFeed b c = (s.endsEstimated b f c unit).endAlarm f.owner c := by
  have record := bookToRecord_estimate (s := (s.feedLost b f c).endAlarm f.owner c) purpose f.estimate
  rw [modUnit_endAlarm, feedLost_modUnit] at record
  rw [endFeed_out c held feeding unbooked out, purposeEnds_unit (line?_of_unit? purpose),
    bookTold_silent record (by rw [endAlarm_node, feedLost_slot]; exact silent)]
  exact (gainTold_endAlarm _ _ _ _ _ _).trans (congrArg (State.endAlarm · f.owner c) (feedLost_gainTold _ b f c))

variable {l : FoamLine} {bt : Batch} {k : Nat} (current : (s.line l).current = some bt)
  (batch : f.purpose = .batch l bt.number k)
include current batch

/-- A batch's feed that ends with the channel out, for a cause that stalls the batch: its segment is booked (R81, R107,
R122). -/
theorem endFeed_out_stalled (stalls : c ≠ .closed) :
    s.endFeed b c = ((s.endsUnweighed b f c).setLine l { s.line l with
      current := some (bt.segmentLost k c f.estimate) }).endAlarm f.owner c := by
  have ended := feedLost_purposeEnds current batch b c
  have stays := bookToBatch_stays (bt := bt.endSegment k c) (k := k) (g := estimatedGain f.estimate)
    (s := ((s.feedLost b f c).purposeEnds f.purpose c).endAlarm f.owner c)
    (by rw [endAlarm_line, ended, State.setLine_line]) (.inl (by simp [Batch.endSegment, stalls]))
  have record := (congrArg (State.bookToRecord _ · (estimatedGain f.estimate)) batch).trans stays
  rw [endAlarm_line, ended, State.setLine_line, setLine_endAlarm, State.setLine_setLine] at record
  rw [endFeed_out c held feeding unbooked out, ended,
    bookTold_silent record (by rw [endAlarm_node, State.setLine_node, feedLost_slot]; exact silent), gainTold_endAlarm,
    gainTold_setLine]
  exact congrArg (fun t : State => (t.setLine l _).endAlarm f.owner c) (feedLost_gainTold s b f c)

/-- A batch's feed that ends CLOSED with the channel out and settles the last segment of a CLOSING batch: the batch
completes (R81, R130). -/
theorem endFeed_out_completes (closing : bt.state = .closing)
    (settled : ∀ x ∈ (bt.segmentLost k .closed f.estimate).segments, x.settled = true)
    (unasked : (s.node (nodeOfLine l)).slot.awaits .foamClose = false) :
    s.endFeed b .closed = (s.endsUnweighed b f .closed).batchDone l (bt.segmentLost k .closed f.estimate) := by
  have ended := feedLost_purposeEnds current batch b .closed
  have lost := (endFeed_out .closed held feeding unbooked out).trans
    (congrArg (State.bookTold · f (estimatedGain f.estimate)) (show State.endAlarm _ f.owner .closed = _ from ended))
  have completes := bookToBatch_completes (bt := bt.endSegment k .closed) (k := k) (g := estimatedGain f.estimate)
    (s := (s.feedLost b f .closed).setLine l { s.line l with current := some (bt.endSegment k .closed) })
    (by rw [State.setLine_line]) closing settled
  rw [bookSegment_endSegment, ← feedLost_line s b f .closed l, batchDone_setLine,
    releaseDeferred_silent (by rw [batchDone_node, feedLost_slot]; exact unasked), feedLost_line] at completes
  have record := (congrArg (State.bookToRecord _ · (estimatedGain f.estimate)) batch).trans completes
  rw [lost, bookTold_silent record (by rw [batchDone_node, feedLost_slot]; exact silent), ← feedLost_gainTold,
    batchDone_gainTold]
  rfl

end

end Sys2Proof.Machine
end

section
namespace Sys2Proof.Machine

/-! ## FEED_CLOSE, and a feed that its flow estimate fills (R70, R77, R78, R81) -/

/-- The bay that a node owns holds a feed of that node (R63). -/
theorem ownedBay_owner {s : State} {n : Node} {b : BayIx} {f : Feed} (owned : s.ownedBay n = some b)
    (held : s.feed b = some f) : f.owner = n := by
  have own := List.find?_some owned
  simpa [held] using own

/-- A feed record that an end replaces does not matter to it. -/
theorem endsWeighed_setFeed (s : State) (b : BayIx) (x : Option Feed) (f : Feed) (c : EndCause) :
    (s.setFeed b x).endsWeighed b f c = s.endsWeighed b f c := by
  unfold State.endsWeighed
  simp only [State.setFeed_setFeed]
  rfl

theorem stored_feed (s : State) (b : BayIx) (f : Feed) (r : Bay) :
    ((s.setFeed b (some f)).setBay b r).feed b = some f :=
  State.setFeed_feed s b _

/-- A book and a feed record that an end with the channel out replaces do not matter to it. -/
theorem endsUnweighed_stored (s : State) (b : BayIx) (x : Option Feed) (book : Nat) (f : Feed) (c : EndCause) :
    ((s.setFeed b x).setBay b { s.bay b with book := book }).endsUnweighed b f c = s.endsUnweighed b f c := by
  have again (y : Option Feed) (q : Bay) (r : NodeRec) :
      (((((s.setFeed b x).setBay b { s.bay b with book := book }).setValve b false).setNode f.owner r).setFeed b
        y).setBay b q = (((s.setValve b false).setNode f.owner r).setFeed b y).setBay b q :=
    setBay_setFeed_again ((s.setValve b false).setNode f.owner r) b x y { s.bay b with book := book } q
  unfold State.endsUnweighed
  simp only [again, State.setBay_bay]
  rfl

theorem endsEstimated_stored (s : State) (b : BayIx) (x : Option Feed) (book : Nat) (f : Feed) (c : EndCause)
    (unit : Nat) : ((s.setFeed b x).setBay b { s.bay b with book := book }).endsEstimated b f c unit
      = s.endsEstimated b f c unit := endsUnweighed_stored (s.modUnit unit _) b x book f c

/-- The owner of a feed that has ended with the channel out is told all of it (R81). -/
theorem endsUnweighed_told {s : State} {f : Feed} {o : FeedOutcome} (present : (s.node f.owner).outcome = some o)
    (b : BayIx) (c : EndCause) : ((s.endsUnweighed b f c).node f.owner).outcome = some { o with
      endCause := some c, settled := true, gain := some f.estimate, estimated := true } := by
  unfold State.endsUnweighed
  rw [present]
  split
  · exact congrArg NodeRec.outcome (State.setNode_node _ _ _)
  · exact congrArg NodeRec.outcome (State.setNode_node _ _ _)

theorem endsEstimated_told {s : State} {f : Feed} {o : FeedOutcome} (present : (s.node f.owner).outcome = some o)
    (b : BayIx) (c : EndCause) (unit : Nat) : ((s.endsEstimated b f c unit).node f.owner).outcome = some { o with
      endCause := some c, settled := true, gain := some f.estimate, estimated := true } :=
  endsUnweighed_told (s := s.modUnit unit _) present b c

section

variable {s : State} {b : BayIx} {f : Feed} {c : EndCause} (feeding : f.state = .feeding)
  (unbooked : f.booked = false) (out : (s.channel b).state ≠ .ok)
  (silent : (s.node f.owner).slot.awaits .feedClose = false)
include feeding unbooked out silent

/-- A unit's feed that ends on a last estimate, with the channel out; its hold deadline ends with it (R60, R74, R81). -/
theorem storeEstimate_endFeed_unit {unit : Nat} (purpose : f.purpose.unit? = some unit) (estimate : Nat)
    (deadline : Option Nat) :
    (s.storeEstimate b { f with estimate := estimate, holdDeadline := deadline }).endFeed b c
      = (s.endsEstimated b { f with estimate := estimate } c unit).endAlarm f.owner c := by
  rw [storeEstimate_unweighed out]
  refine (endFeed_out_unit (stored_feed s b _ _) (by exact feeding) (by exact unbooked) (by exact out)
    (by exact silent) (by exact purpose)).trans (congrArg (State.endAlarm · f.owner c) ?_)
  exact endsEstimated_stored s b _ _ _ c unit

/-- A batch's feed that ends on a last estimate, with the channel out (R60, R74, R81, R122). -/
theorem storeEstimate_endFeed_stalled {l : FoamLine} {bt : Batch} {k : Nat} (current : (s.line l).current = some bt)
    (batch : f.purpose = .batch l bt.number k) (stalls : c ≠ .closed) (estimate : Nat) (deadline : Option Nat) :
    (s.storeEstimate b { f with estimate := estimate, holdDeadline := deadline }).endFeed b c
      = ((s.endsUnweighed b { f with estimate := estimate } c).setLine l { s.line l with
        current := some (bt.segmentLost k c estimate) }).endAlarm f.owner c := by
  rw [storeEstimate_unweighed out]
  refine (endFeed_out_stalled (stored_feed s b _ _) (by exact feeding) (by exact unbooked) (by exact out)
    (by exact silent) (by exact current) (by exact batch) stalls).trans ?_
  exact congrArg (fun t : State => (t.setLine l _).endAlarm f.owner c) (endsUnweighed_stored s b _ _ _ c)

end

section

variable {s : State} {n : Node} {b : BayIx} {f : Feed}

/-- With the channel out, a book at max fill ends the feed FULL (R70). -/
theorem ownFeedProgress_full {v : Vessel} (running : s.runningFeed n = some (b, f))
    (out : (s.channel b).state ≠ .ok) (vessel : (s.bay b).vessel = some v) (flow : Nat)
    (full : v.capacity * fillDensity v.cls ≤ min 1000000 (f.startNet + 10 * flow)) :
    ownFeedProgress n flow s = endedAnswer ((s.storeEstimate b { f with
      estimate := 10 * flow, holdDeadline := some (s.now + 1000 * s.params.holdTime) }).endFeed b .full) n := by
  simp only [ownFeedProgress, running]
  refine if_pos ?_
  rw [storeEstimate_unweighed out]
  simp [State.estimateMode, State.bookFull, Bay.maxFill, Feed.bookFigure, vessel, out, full]

/-- A station that waits for a grant has no feed to close (R78). -/
theorem ownFeedClose_waiting (free : s.ownedBay n = none) (waits : s.entry n ≠ none) (tag flow : Nat) :
    ownFeedClose n tag flow s = refuse s .wrongState := by
  simp only [ownFeedClose, runningFeed_unowned free]
  exact if_pos ⟨by rw [free]; rfl, Option.isSome_iff_ne_none.mpr waits⟩

theorem ownFeedClose_ended (ended : s.runningFeed n = none) (h : s.ownedBay n ≠ none ∨ s.entry n = none)
    (tag flow : Nat) : ownFeedClose n tag flow s = endedAnswer s n := by
  simp only [ownFeedClose, ended]
  refine if_neg ?_
  obtain owned | unqueued := h
  · simp [owned]
  · simp [unqueued]

/-- With the channel OK the reply waits for the FEED_END reading, where the slot is free for it (R77). -/
theorem ownFeedClose_weighed (running : s.runningFeed n = some (b, f)) (feeding : f.state = .feeding)
    (ok : (s.channel b).state = .ok) (tag flow : Nat) : ownFeedClose n tag flow s =
      if (s.node n).slot = .empty then
        { state := ((s.endsWeighed b { f with estimate := 10 * flow } .closed).purposeEnds f.purpose .closed).setSlot n
            (.deferred tag .feedClose)
          status := .deferred }
      else refuse s .slotBusy := by
  have ended : (s.storeEstimate b { f with estimate := 10 * flow }).endFeed b .closed
      = (s.endsWeighed b { f with estimate := 10 * flow } .closed).purposeEnds f.purpose .closed := by
    rw [storeEstimate_weighed ok, endFeed_ok (f := { f with estimate := 10 * flow }) .closed (State.setFeed_feed s b _)
      feeding ok, endsWeighed_setFeed]
    rfl
  simp only [ownFeedClose, running, State.estimateMode, ok, ended, bne_self_eq_false, Bool.false_eq_true, if_false]
  rfl

theorem outcomeBody_present {o : FeedOutcome} (present : (s.node n).outcome = some o) :
    s.outcomeBody n = .outcome o := by
  simp only [State.outcomeBody, present]

/-- With the channel out the feed ends and is answered at once (R77, R81). -/
theorem ownFeedClose_unweighed (running : s.runningFeed n = some (b, f)) (out : (s.channel b).state ≠ .ok)
    (tag flow : Nat) : ownFeedClose n tag flow s =
      let closed := (s.storeEstimate b { f with estimate := 10 * flow }).endFeed b .closed
      { state := closed, status := .ok, body := closed.outcomeBody n } := by
  simp only [ownFeedClose, running]
  exact if_pos (by simp [State.estimateMode, out])

end

/-- Settles O18: with no running feed by the Wait List and the outcome field, with one by the slot. -/
theorem feedCloseDefers : Obligations.FeedCloseDefers := by
  intro s n tag flow run role
  have answered {r : Taken} (answer : ownFeedClose n tag flow s = r) :=
    live_take (tag := tag) run (permitted_feedClose role) answer
  refine ⟨fun free waits => ?_, fun free unqueued absent => ?_, fun free unqueued o present => ?_,
    fun b owned f held => ?_⟩
  · exact answered (ownFeedClose_waiting free waits tag flow)
  · exact answered ((ownFeedClose_ended (runningFeed_unowned free) (.inr unqueued) tag flow).trans
      (endedAnswer_absent absent))
  · exact answered ((ownFeedClose_ended (runningFeed_unowned free) (.inr unqueued) tag flow).trans
      (endedAnswer_present present))
  have running := runningFeed_owned owned held
  refine ⟨fun closing o present => ?_, fun feeding ok busy => ?_, fun feeding ok empty unfoamed => ?_⟩
  · rw [closing, if_neg nofun] at running
    exact answered ((ownFeedClose_ended running (.inl (by rw [owned]; exact nofun)) tag flow).trans
      (endedAnswer_present present))
  · rw [if_pos feeding] at running
    exact answered ((ownFeedClose_weighed running feeding ok tag flow).trans (if_neg busy))
  · rw [if_pos feeding] at running
    have closes := (ownFeedClose_weighed running feeding ok tag flow).trans (if_pos empty)
    rw [purposeEnds_unit unfoamed] at closes
    exact answered closes

/-- Settles O17: the last estimate is stored, the feed ends on it, and the answer carries the outcome field that
leaves. -/
theorem feedEndsByEstimate : Obligations.FeedEndsByEstimate := by
  intro s n tag flow run role silent b owned f held o present feeding unbooked out last told
  obtain rfl := ownedBay_owner owned held
  have running := runningFeed_owned owned held
  rw [if_pos feeding] at running
  refine ⟨fun v vessel full => ?_, fun station unit hu => ?_⟩
  · have fills := ownFeedProgress_full running out vessel flow full
    have answered {r : Taken} (answer : endedAnswer _ f.owner = r) :=
      live_take (tag := tag) run (permitted_feedProgress role) (fills.trans answer)
    refine ⟨fun unit hu => ?_, fun l hl bt current k batch => ?_⟩
    · rw [storeEstimate_endFeed_unit (c := .full) feeding unbooked out silent hu _ _] at answered
      exact answered (endedAnswer_present (endsEstimated_told (f := last) present b .full unit))
    · rw [storeEstimate_endFeed_stalled feeding unbooked out silent current batch (c := .full) nofun _ _] at answered
      exact answered (endedAnswer_present (endsUnweighed_told (f := last) present b .full))
  · have closes := ownFeedClose_unweighed running out tag flow
    rw [storeEstimate_endFeed_unit (c := .closed) feeding unbooked out silent hu _ _] at closes
    have told := outcomeBody_present (endsEstimated_told (f := last) present b .closed unit)
    exact live_take run (permitted_feedClose station) (closes.trans (congrArg (Taken.mk _ _) told))

end Sys2Proof.Machine
end

section
namespace Sys2Proof.Machine

/-! ## The passing of a hold deadline (R72, R74, R81) -/

/-- Without a feed, or before its deadline, the clock alone moves (R72). -/
theorem exec_holdDeadline_stands {s : State} {b : BayIx} {arrival : Nat} (run : s.inReset = false)
    (ahead : ∀ f ∈ s.feed b, ∀ d ∈ f.holdDeadline, max s.now arrival < d) :
    exec (.holdDeadline b arrival) s = .next (s.advance arrival) := by
  refine (live_running _ s run).trans (congrArg _ ?_)
  simp only [passHold, State.advance_feed]
  split
  · rfl
  next f held =>
    refine if_neg ?_
    rw [passed_eq_any]
    cases deadline : f.holdDeadline with
    | none => exact nofun
    | some d => simpa using ahead f held d deadline

/-- A deadline that the clock has reached ends the feed ABANDONED (R72). -/
theorem exec_holdDeadline_ends {s : State} {b : BayIx} {f : Feed} {d arrival : Nat} (run : s.inReset = false)
    (held : s.feed b = some f) (deadline : f.holdDeadline = some d) (reached : d ≤ max s.now arrival) :
    exec (.holdDeadline b arrival) s = .next ((s.advance arrival).endFeed b .abandoned) := by
  refine (live_running _ s run).trans (congrArg _ ?_)
  simp only [passHold, State.advance_feed, held]
  exact if_pos (by rw [deadline, passed_some]; exact decide_eq_true reached)

/-- Settles O19: a deadline ahead is no end; one that has passed ends the feed by its channel and its purpose. -/
theorem holdDeadlineAbandons : Obligations.HoldDeadlineAbandons := by
  intro s b arrival run
  refine ⟨fun empty => exec_holdDeadline_stands run (by simp [empty]), fun f held => ⟨fun absent => ?_,
    fun d deadline => ⟨fun ahead => ?_, fun reached feeding unbooked silent => ⟨fun ok unfoamed => ?_,
      fun out unit purpose => ?_, fun l _ bt current k batch => ⟨fun ok => ?_, fun out => ?_⟩⟩⟩⟩⟩
  · exact exec_holdDeadline_stands run fun g hg => by
      obtain rfl := Option.some.inj (held.symm.trans hg)
      simp [absent]
  · exact exec_holdDeadline_stands run fun g hg e he => by
      obtain rfl := Option.some.inj (held.symm.trans hg)
      exact Option.some.inj (deadline.symm.trans he) ▸ ahead
  all_goals have ends := exec_holdDeadline_ends run held deadline reached
  · rw [ends, endFeed_ok (s := s.advance arrival) .abandoned held feeding ok, purposeEnds_unit unfoamed]
    rfl
  · rw [ends, endFeed_out_unit (s := s.advance arrival) held feeding unbooked out silent purpose]
    rfl
  · rw [ends, endFeed_ok (s := s.advance arrival) .abandoned held feeding ok, batch]
    rfl
  · rw [ends, endFeed_out_stalled (s := s.advance arrival) (c := .abandoned) held feeding unbooked out silent current
      batch nofun]
    rfl

/-! ## FOAM_CLOSE that completes its batch (R81, R95, R126 to R130) -/

theorem permitted_foamClose (l : FoamLine) : permitted .foamClose (roleOf (nodeOfLine l)) = true := by
  rw [roleOf_nodeOfLine]
  rfl

theorem endsUnweighed_setLine (s : State) (l : FoamLine) (r : LineRec) (b : BayIx) (f : Feed) (c : EndCause) :
    (s.setLine l r).endsUnweighed b f c = (s.endsUnweighed b f c).setLine l r := by
  unfold State.endsUnweighed
  rw [State.setLine_switch]
  split <;> rfl

theorem endsUnweighed_line (s : State) (b : BayIx) (f : Feed) (c : EndCause) (l : FoamLine) :
    (s.endsUnweighed b f c).line l = s.line l := by
  unfold State.endsUnweighed
  split <;> rfl

/-- An entry that leaves stalls the batch it waited for (R95, R121). -/
theorem endEntry_batch {s : State} {e : WaitEntry} {l : FoamLine} {bt : Batch} (purpose : e.purpose.line? = some l)
    (current : (s.line l).current = some bt) (st : Status) : s.endEntry e st =
      (s.removed e st).setLine l { (s.removed e st).line l with current := some { bt with state := .stalled } } := by
  rw [endEntry_spec]
  cases named : e.purpose with
  | unit tag => rw [named] at purpose; exact absurd purpose nofun
  | batch l' number =>
    rw [named] at purpose
    obtain rfl : l' = l := Option.some.inj purpose
    exact modCurrent_some (s := s.removed e st) current _

theorem entry_node {s : State} {n : Node} {e : WaitEntry} (found : s.entry n = some e) : e.node = n := by
  simpa using List.find?_some found

theorem done_completionBody (bt : Batch) (p : Params) : (bt.done p).completionBody = bt.doneBody := by
  simp [Batch.completionBody, Batch.done, Batch.doneBody, splitShares_length]

/-- The completed batch stands in the previous slot and answers its figures (R113, R130). -/
theorem batchDone_settledBody (s : State) (l : FoamLine) (bt : Batch) :
    (s.batchDone l bt).settledBody l = bt.doneBody := by
  have line : (s.batchDone l bt).line l = { s.line l with current := none, previous := some (bt.done s.params) } := by
    unfold State.batchDone
    dsimp only
    split
    · exact State.setLine_line s l _
    · split <;> exact State.setLine_line s l _
  simp only [State.settledBody, line, done_completionBody]

/-- A batch whose segments are all settled completes at once where no FOAM_CLOSE is deferred (R128, R130). -/
theorem closeStalled_completes {s : State} {l : FoamLine} {bt bt' : Batch} (current : (s.line l).current = some bt')
    (settled : ∀ g ∈ bt.segments, g.settled = true)
    (unasked : (s.node (nodeOfLine l)).slot.awaits .foamClose = false) (n : Node) (tag : Nat) :
    closeStalled n tag l bt s = { state := s.batchDone l bt', status := .ok, body := bt'.doneBody } := by
  have completed : s.completeBatch l = s.batchDone l bt' := by
    rw [completeBatch_eq_batchDone s l bt' current, releaseDeferred_silent (by rw [batchDone_node]; exact unasked)]
  refine (if_pos (List.all_eq_true.mpr settled)).trans ?_
  rw [completeNow, completed, batchDone_settledBody]

/-- With the channel out the feed of an OPEN batch ends CLOSED, and the batch is answered as it leaves it (R127). -/
theorem closeOpen_out {s : State} {l : FoamLine} {b : BayIx} {bt : Batch} (current : (s.line l).current = some bt)
    (out : (s.channel b).state ≠ .ok) (n : Node) (tag : Nat) : closeOpen n tag l b s =
      let closed := (s.setLine l { s.line l with current := some { bt with state := .closing } }).endFeed b .closed
      { state := closed, status := .ok, body := closed.settledBody l } := by
  unfold closeOpen
  rw [modCurrent_some current]
  exact if_pos (by simp [State.estimateMode, out])

section

variable {s : State} {l : FoamLine} {bt : Batch} (current : (s.line l).current = some bt)
include current

theorem ownFoamClose_stalled (stalled : bt.state = .stalled) (tag : Nat) :
    ownFoamClose (nodeOfLine l) tag s = closeStalled (nodeOfLine l) tag l bt s := by
  simp only [ownFoamClose, lineOfNode_nodeOfLine, current, stalled]

/-- The entry of a batch that waits for a feed is withdrawn first (R95, R129). -/
theorem ownFoamClose_waiting {e : WaitEntry} (waiting : bt.state = .waitingFeed)
    (found : s.entry (nodeOfLine l) = some e) (tag : Nat) :
    ownFoamClose (nodeOfLine l) tag s = closeStalled (nodeOfLine l) tag l bt (s.endEntry e .withdrawn) := by
  simp only [ownFoamClose, lineOfNode_nodeOfLine, current, waiting, found]

theorem ownFoamClose_running {b : BayIx} {f : Feed} (opened : bt.state = .opened)
    (running : s.runningFeed (nodeOfLine l) = some (b, f)) (tag : Nat) :
    ownFoamClose (nodeOfLine l) tag s = closeOpen (nodeOfLine l) tag l b s := by
  simp only [ownFoamClose, lineOfNode_nodeOfLine, current, opened, running]

/-- A WAITING_FEED batch completes once its entry is withdrawn: the slot then holds the withdrawal (R95, R129, R130). -/
theorem ownFoamClose_withdrawn {e : WaitEntry} (waiting : bt.state = .waitingFeed)
    (found : s.entry (nodeOfLine l) = some e) (purpose : e.purpose.line? = some l)
    (settled : ∀ g ∈ bt.segments, g.settled = true) (tag : Nat) : ownFoamClose (nodeOfLine l) tag s =
      { state := (s.removed e .withdrawn).batchDone l bt, status := .ok, body := bt.doneBody } := by
  have slot : ((s.removed e .withdrawn).node (nodeOfLine l)).slot.awaits .foamClose = false := by
    rw [← entry_node found]
    simp [State.removed, Slot.awaits]
  rw [ownFoamClose_waiting current waiting found, endEntry_batch purpose current,
    closeStalled_completes (bt' := { bt with state := .stalled }) (by rw [State.setLine_line]) settled (by exact slot),
    batchDone_setLine, batchDone_state]
  rfl

/-- An OPEN batch whose feed's channel is out completes with the end of that feed (R81, R127, R130). -/
theorem ownFoamClose_out {b : BayIx} {f : Feed} {k : Nat} (opened : bt.state = .opened)
    (owned : s.ownedBay (nodeOfLine l) = some b) (held : s.feed b = some f) (feeding : f.state = .feeding)
    (unbooked : f.booked = false) (out : (s.channel b).state ≠ .ok) (batch : f.purpose = .batch l bt.number k)
    (unasked : (s.node (nodeOfLine l)).slot.awaits .foamClose = false)
    (silent : (s.node (nodeOfLine l)).slot.awaits .feedClose = false)
    (settled : ∀ g ∈ (bt.segmentLost k .closed f.estimate).segments, g.settled = true) (tag : Nat) :
    ownFoamClose (nodeOfLine l) tag s =
      { state := (s.endsUnweighed b f .closed).batchDone l (bt.segmentLost k .closed f.estimate), status := .ok
        body := (bt.segmentLost k .closed f.estimate).doneBody } := by
  have running := runningFeed_owned owned held
  rw [if_pos feeding] at running
  have ends := endFeed_out_completes (s := s.setLine l { s.line l with current := some { bt with state := .closing } })
    (bt := { bt with state := .closing }) held feeding unbooked out (by rw [ownedBay_owner owned held]; exact silent)
    (by rw [State.setLine_line]) batch rfl settled unasked
  rw [endsUnweighed_setLine, ← endsUnweighed_line s b f .closed l, batchDone_setLine, endsUnweighed_line] at ends
  rw [ownFoamClose_running current opened running, closeOpen_out current out, ends]
  exact congrArg (Taken.mk _ .ok) (batchDone_settledBody _ l _)

end

/-- Settles O24, by the state of the batch: it completes as it stands, after the withdrawal, or with the end of its
feed. -/
theorem foamCloseCompletes : Obligations.FoamCloseCompletes := by
  intro s l tag run bt current
  have answered {r : Taken} (answer : ownFoamClose (nodeOfLine l) tag s = r) :=
    live_take (tag := tag) run (permitted_foamClose l) answer
  refine ⟨fun stalled unasked settled => ?_, fun waiting e found purpose settled => ?_,
    fun opened unasked silent b owned f held feeding unbooked out k batch => ?_⟩
  · exact answered ((ownFoamClose_stalled current stalled tag).trans
      (closeStalled_completes current settled unasked _ tag))
  · exact answered (ownFoamClose_withdrawn current waiting found purpose settled tag)
  · exact fun settled => answered
      (ownFoamClose_out current opened owned held feeding unbooked out batch unasked silent settled tag)

end Sys2Proof.Machine
end

section
namespace Sys2Proof.Machine

/-! ## Slots, the Wait List and the delivery list (R86, R89, R152, R153, R169) -/

/-- From `s` to `t` slots, Wait List and delivery list stay in agreement. -/
def KeepsSlots (s t : State) : Prop := SlotsOk s → SlotsOk t

theorem KeepsSlots.refl (s : State) : KeepsSlots s s := id

theorem KeepsSlots.trans {s t u : State} (h : KeepsSlots s t) (k : KeepsSlots t u) : KeepsSlots s u := k ∘ h

/-- Wait List, line and every slot stand. Where the records of a step show that by themselves, `KeepsSlots` is closed by
what it is closed by before the step. -/
abbrev SameSlots (s t : State) : Prop :=
  t.waits = s.waits ∧ t.pli = s.pli ∧ ∀ n, (t.node n).slot = (s.node n).slot

theorem KeepsSlots.frame {s t u : State} (h : KeepsSlots s t) (same : SameSlots t u) : KeepsSlots s u := by
  obtain ⟨waits, pli, slots⟩ := same
  refine h.trans fun ok => ?_
  simpa only [SlotsOk, waits, pli, slots] using ok

theorem KeepsSlots.setBay {s t : State} (h : KeepsSlots s t) (b : BayIx) (r : Bay) : KeepsSlots s (t.setBay b r) := h

theorem KeepsSlots.setChannel {s t : State} (h : KeepsSlots s t) (b : BayIx) (r : Channel) :
    KeepsSlots s (t.setChannel b r) := h

theorem KeepsSlots.setFeed {s t : State} (h : KeepsSlots s t) (b : BayIx) (r : Option Feed) :
    KeepsSlots s (t.setFeed b r) := h

theorem KeepsSlots.setLine {s t : State} (h : KeepsSlots s t) (l : FoamLine) (r : LineRec) :
    KeepsSlots s (t.setLine l r) := h

theorem KeepsSlots.alarm {s t : State} (h : KeepsSlots s t) (k : AlarmKind) (x : Option Nat) (v : Int) :
    KeepsSlots s (t.alarm k x v) := h

theorem KeepsSlots.foldl {α : Type} {f : State → α → State} (h : ∀ t x, KeepsSlots t (f t x)) (xs : List α)
    (s : State) : KeepsSlots s (xs.foldl f s) := by
  induction xs generalizing s with
  | nil => exact .refl s
  | cons x xs ih => exact (h s x).trans (ih (f s x))

/-- A node record that keeps its slot leaves every slot as it is. -/
theorem setNode_slots {s : State} {n : Node} {r : NodeRec} (same : r.slot = (s.node n).slot) (m : Node) :
    ((s.setNode n r).node m).slot = (s.node m).slot := by
  by_cases e : m = n
  · rw [e, State.setNode_node, same]
  · rw [State.setNode_node_ne s n r m e]

theorem KeepsSlots.setNode {s t : State} (h : KeepsSlots s t) (n : Node) {r : NodeRec}
    (same : r.slot = (t.node n).slot) : KeepsSlots s (t.setNode n r) := h.frame ⟨rfl, rfl, setNode_slots same⟩

/-! ### One slot -/

/-- A node whose slot is not DEFERRED for a request that can wait has no entry (R89). -/
theorem no_entry {s : State} (ok : SlotsOk s) {n : Node}
    (other : ∀ tag k, (s.node n).slot = .deferred tag k → k ∉ waitKinds) : ∀ e ∈ s.waits, e.node ≠ n := by
  obtain ⟨-, deferred, -⟩ := ok
  rintro e waiting rfl
  obtain ⟨kind, slot⟩ := deferred e waiting
  exact other e.tag e.kind slot kind

/-- A slot that is not DELIVERABLE, of a node without an entry, becomes DELIVERABLE (R153, R169). -/
theorem slotsOk_deliver {s : State} {n : Node} (r : SlotReply) (free : ∀ e ∈ s.waits, e.node ≠ n)
    (before : (s.node n).slot.isDeliverable = false) (ok : SlotsOk s) : SlotsOk (s.deliver n r) := by
  obtain ⟨nodup, deferred, single, delivery, one, stands⟩ := ok
  have other {m : Node} (e : m ≠ n) : (s.deliver n r).node m = s.node m := State.setNode_node_ne s n _ m e
  have own : ((s.deliver n r).node n).slot = .deliverable r := congrArg NodeRec.slot (State.setNode_node s n _)
  have unlisted : n ∉ s.pli.delivery := fun listed => by simp [(delivery n).mp listed] at before
  refine ⟨nodup, fun e he => ?_, ?_, fun m => ?_, one, fun c hc reply => ?_⟩
  · rw [other (free e he)]
    exact deferred e he
  · exact List.Nodup.append single (List.nodup_singleton n) (List.disjoint_singleton.mpr unlisted)
  · change m ∈ s.pli.delivery ++ [n] ↔ _
    by_cases e : m = n
    · simp [e, own, Slot.isDeliverable]
    · simp [e, other e, delivery m]
  · by_cases e : c.partner = n
    · rw [e, own]
      rfl
    · rw [other e]
      exact stands c hc reply

/-- An empty slot takes a deferred request; its node has no entry, and none of its replies is being sent (R89, R169). -/
theorem slotsOk_defer {s : State} {n : Node} (tag : Nat) (k : ReqKind) (empty : (s.node n).slot = .empty)
    (ok : SlotsOk s) : SlotsOk (s.defer n tag k) := by
  have free := no_entry ok (n := n) (by simp [empty])
  obtain ⟨nodup, deferred, single, delivery, one, stands⟩ := ok
  have other {m : Node} (e : m ≠ n) : (s.defer n tag k).node m = s.node m := State.setNode_node_ne s n _ m e
  have own : ((s.defer n tag k).node n).slot = .deferred tag k := congrArg NodeRec.slot (State.setNode_node s n _)
  refine ⟨nodup, fun e he => ?_, single, fun m => (delivery m).trans ?_, one, fun c hc reply => ?_⟩
  · rw [other (free e he)]
    exact deferred e he
  · by_cases e : m = n
    · rw [e, own, empty]
      exact Iff.rfl
    · rw [other e]
  · have held := stands c hc reply
    by_cases e : c.partner = n
    · rw [e, empty] at held
      exact absurd held nofun
    · rwa [other e]

/-- An entry joins with its slot DEFERRED for it (R86, R89). -/
theorem slotsOk_joinWait {s : State} {n : Node} (tag : Nat) {k : ReqKind} (g : GasClass) (w : WaitPurpose)
    (kind : k ∈ waitKinds) (empty : (s.node n).slot = .empty) (ok : SlotsOk s) : SlotsOk (s.joinWait n tag k g w) := by
  have free := no_entry ok (n := n) (by simp [empty])
  obtain ⟨nodup, deferred, rest⟩ := slotsOk_defer tag k empty ok
  have own : ((s.defer n tag k).node n).slot = .deferred tag k := congrArg NodeRec.slot (State.setNode_node s n _)
  refine ⟨?_, fun e he => ?_, rest⟩
  · refine (List.map_append (f := WaitEntry.node)).symm ▸ ?_
    exact List.Nodup.append nodup (List.nodup_singleton n) (by simpa using free)
  · obtain old | new := List.mem_append.mp he
    · exact deferred e old
    · rw [List.mem_singleton.mp new]
      exact ⟨kind, own⟩

/-- Entries leave the list (R86). -/
theorem slotsOk_dropEntry {s : State} (n : Node) (ok : SlotsOk s) : SlotsOk (s.dropEntry n) := by
  obtain ⟨nodup, deferred, rest⟩ := ok
  exact ⟨nodup.sublist (List.filter_sublist.map _), fun e he => deferred e (List.mem_filter.mp he).1, rest⟩

/-! ### What answers deferred closes alone -/

/-- From `s` to `t` the Wait List stands, no slot changes but one that is DEFERRED for a request that cannot wait, and no
alarm of the Interlock Unit is counted. -/
structure Releases (s t : State) : Prop where
  waits : t.waits = s.waits
  slot : ∀ n, (t.node n).slot = (s.node n).slot ∨ ∃ tag k, (s.node n).slot = .deferred tag k ∧ k ∉ waitKinds
  alarms : ∀ k, k = .estopOn ∨ k = .permitDropped → t.alarms.recs[alarmIx k] = s.alarms.recs[alarmIx k]
  keeps : KeepsSlots s t

theorem Releases.refl (s : State) : Releases s s := ⟨rfl, fun _ => .inl rfl, fun _ _ => rfl, .refl s⟩

theorem Releases.trans {s t u : State} (h : Releases s t) (k : Releases t u) : Releases s u where
  waits := k.waits.trans h.waits
  slot n := by
    obtain same | released := k.slot n
    · exact same ▸ h.slot n
    · obtain same | before := h.slot n
      · exact .inr (same ▸ released)
      · exact .inr before
  alarms a ha := (k.alarms a ha).trans (h.alarms a ha)
  keeps := h.keeps.trans k.keeps

theorem Releases.foldl {α : Type} {f : State → α → State} (h : ∀ t x, Releases t (f t x)) (xs : List α)
    (s : State) : Releases s (xs.foldl f s) := by
  induction xs generalizing s with
  | nil => exact .refl s
  | cons x xs ih => exact (h s x).trans (ih (f s x))

/-- Wait List, line, slots and alarms stand. -/
theorem Releases.frame {s t u : State} (h : Releases s t) (same : SameSlots t u) (alarms : u.alarms = t.alarms) :
    Releases s u := by
  obtain ⟨waits, -, slots⟩ := id same
  exact h.trans ⟨waits, fun n => .inl (slots n), fun k _ => by rw [alarms], (KeepsSlots.refl t).frame same⟩

theorem Releases.setBay {s t : State} (h : Releases s t) (b : BayIx) (r : Bay) : Releases s (t.setBay b r) :=
  h.frame ⟨rfl, rfl, fun _ => rfl⟩ rfl

theorem Releases.setFeed {s t : State} (h : Releases s t) (b : BayIx) (r : Option Feed) : Releases s (t.setFeed b r) :=
  h.frame ⟨rfl, rfl, fun _ => rfl⟩ rfl

theorem Releases.setUnits {s t : State} (h : Releases s t) (us : List UnitRec) : Releases s (t.setUnits us) :=
  h.frame ⟨rfl, rfl, fun _ => rfl⟩ rfl

theorem Releases.setLine {s t : State} (h : Releases s t) (l : FoamLine) (r : LineRec) : Releases s (t.setLine l r) :=
  h.frame ⟨rfl, rfl, fun _ => rfl⟩ rfl

theorem Releases.openWindow {s t : State} (h : Releases s t) (b : BayIx) (p : WindowPurpose) :
    Releases s (t.openWindow b p) := h.frame ⟨rfl, rfl, fun _ => rfl⟩ rfl

theorem Releases.alarm {s t : State} (h : Releases s t) (k : AlarmKind) (x : Option Nat) (v : Int)
    (other : k ≠ .estopOn ∧ k ≠ .permitDropped) : Releases s (t.alarm k x v) := by
  refine h.trans ⟨rfl, fun _ => .inl rfl, fun j hj => ?_, .refl t⟩
  obtain ⟨stop, drop⟩ := other
  refine (count_recs t.alarms k x v j).trans (if_neg ?_)
  rintro rfl
  obtain rfl | rfl := hj
  · exact stop rfl
  · exact drop rfl

/-- An empty slot stands. -/
theorem Releases.empty {s t : State} (h : Releases s t) {n : Node} (empty : (s.node n).slot = .empty) :
    (t.node n).slot = .empty := by
  obtain same | ⟨tag, k, slot, -⟩ := h.slot n
  · exact same.trans empty
  · exact absurd (empty.symm.trans slot) nofun

/-- The reply to a request that cannot wait is released (R80, R130). -/
theorem Releases.releaseDeferred {s t : State} (h : Releases s t) (n : Node) {k : ReqKind} (b : Body)
    (other : k ∉ waitKinds) : Releases s (t.releaseDeferred n k b) := by
  obtain ⟨tag, slot, e⟩ | ⟨-, e⟩ := releaseDeferred_cases t n k b <;> rw [e]
  · refine h.trans ⟨rfl, fun m => ?_, fun _ _ => rfl, fun ok => ?_⟩
    · by_cases e : m = n
      · exact .inr ⟨tag, k, e ▸ slot, other⟩
      · exact .inl (congrArg NodeRec.slot (State.setNode_node_ne t n _ m e))
    · refine slotsOk_deliver _ (no_entry ok fun tag' k' slot' => ?_) (by rw [slot]; rfl) ok
      obtain ⟨-, rfl⟩ := Slot.deferred.inj (slot.symm.trans slot')
      exact other
  · exact h

/-! ### Bookings and completions (R59, R80, R81, R130) -/

theorem Releases.completeBatch {s t : State} (h : Releases s t) (l : FoamLine) : Releases s (t.completeBatch l) := by
  cases current : (t.line l).current with
  | none => simpa only [State.completeBatch, current] using h
  | some bt =>
    rw [completeBatch_eq_batchDone t l bt current]
    refine Releases.releaseDeferred ?_ _ _ (by decide)
    unfold State.batchDone
    dsimp only
    split
    · exact ((h.setLine _ _).setUnits _).alarm _ _ _ (by decide)
    split
    · exact ((h.setLine _ _).setUnits _).alarm _ _ _ (by decide)
    · exact (h.setLine _ _).setUnits _

theorem Releases.bookToRecord {s t : State} (h : Releases s t) (p : FeedPurpose) (g : GainResult) :
    Releases s (t.bookToRecord p g) := by
  cases p with
  | unit tag => exact h.setUnits _
  | batch l number k =>
    have booked : Releases s (t.modCurrent l (·.bookSegment k g)) := h.setLine l _
    unfold State.bookToRecord State.bookToBatch
    dsimp only
    split
    · exact h
    split
    · split
      · exact booked.completeBatch l
      · exact booked
    · exact h

theorem Releases.bookGain {s t : State} (h : Releases s t) (b : BayIx) (f : Feed) (g : GainResult) :
    Releases s (t.bookGain b f g) := by
  have told : Releases s ((t.bookToRecord f.purpose g).gainTold f.owner g.gain g.estimated) :=
    (h.bookToRecord f.purpose g).frame ⟨rfl, rfl, setNode_slots rfl⟩ rfl
  rw [bookGain_eq_bookTold]
  refine Releases.setFeed (t := t.bookTold f g) ?_ b _
  unfold State.bookTold State.tellOwner
  split
  · exact told.releaseDeferred _ _ (by decide)
  · exact told

theorem Releases.bookByEstimate {s t : State} (h : Releases s t) (b : BayIx) : Releases s (t.bookByEstimate b) := by
  obtain ⟨-, e⟩ | ⟨f, -, -, e⟩ := bookByEstimate_cases t b <;> rw [e]
  · exact h
  · exact (h.setBay b _).bookGain b _ _

theorem Releases.enterService {s t : State} (h : Releases s t) (b : BayIx) : Releases s (t.enterService b) := by
  obtain ⟨-, e⟩ | ⟨-, e⟩ := enterService_cases t b <;> rw [e]
  · exact (h.setBay b _).openWindow b .baseline
  · exact h.setBay b _

theorem Releases.leaveClosing {s t : State} (h : Releases s t) (b : BayIx) : Releases s (t.leaveClosing b) := by
  obtain e | ⟨-, -, -, e⟩ := leaveClosing_cases t b <;> rw [e]
  · exact h
  · exact (h.setFeed b none).enterService b

/-! ### Ends of feeds (R74) -/

theorem Releases.feedEnded {s t : State} (h : Releases s t) (b : BayIx) (f : Feed) (c : EndCause) :
    Releases s (t.feedEnded b f c) := by
  have stopped : Releases s (t.feedStopped b f c) := h.frame ⟨rfl, rfl, setNode_slots rfl⟩ rfl
  have told : Releases s ((t.feedStopped b f c).purposeEnds f.purpose c) := by
    cases f.purpose with
    | unit tag => exact stopped
    | batch l number k => exact stopped.setLine l _
  rw [feedEnded_eq]
  cases c with
  | abandoned => exact told.alarm _ _ _ (by decide)
  | interlock => exact told.alarm _ _ _ (by decide)
  | _ => exact told

theorem Releases.endFeed {s t : State} (h : Releases s t) (b : BayIx) (c : EndCause) : Releases s (t.endFeed b c) := by
  obtain ⟨-, e⟩ | ⟨f, -, -, ended⟩ := endFeed_cases t b c
  · rwa [e]
  have told := h.feedEnded b f c
  obtain ⟨-, -, e⟩ | ⟨-, e⟩ | e := ended <;> rw [e]
  · exact told.openWindow b .feedEnd
  · exact told
  · exact (told.bookByEstimate b).leaveClosing b

theorem Releases.endFeeds {s t : State} (h : Releases s t) (which : GasClass → Bool) (c : EndCause) :
    Releases s (t.endFeeds which c) := by
  refine h.trans (Releases.foldl (fun t n => ?_) _ t)
  split
  · split
    · exact (Releases.refl t).endFeed _ c
    · exact .refl t
  · exact .refl t

/-! ### Grants and entries (R67, R86 to R96) -/

theorem Releases.grant {s t : State} (h : Releases s t) (b : BayIx) (n : Node) (w : WaitPurpose) (g : GasClass) :
    Releases s (t.grant b n w g) := by
  have granted (p : FeedPurpose) : Releases s (t.granted b n p g) := h.frame ⟨rfl, rfl, setNode_slots rfl⟩ rfl
  rw [grant_spec]
  cases w with
  | unit tag => exact granted _
  | batch l number => exact (granted _).setLine l _

/-- An entry leaves the list, whatever closes are answered meanwhile, and gets its own answer (R91 to R96). -/
theorem slotsOk_answerEntry {s t : State} {e : WaitEntry} (ok : SlotsOk s) (waiting : e ∈ s.waits)
    (left : Releases (s.dropEntry e.node) t) (st : Status) (b : Body) : SlotsOk (t.answerEntry e st b) := by
  have gone := slotsOk_dropEntry e.node ok
  obtain ⟨-, deferred, -⟩ := ok
  obtain ⟨kind, slot⟩ := deferred e waiting
  have still : (t.node e.node).slot = .deferred e.tag e.kind := by
    obtain same | ⟨tag, k, slot', other⟩ := left.slot e.node
    · exact same.trans slot
    · obtain ⟨-, rfl⟩ := Slot.deferred.inj (slot.symm.trans slot')
      exact absurd kind other
  refine slotsOk_deliver _ (fun x hx => ?_) (by rw [still]; rfl) (left.keeps gone)
  rw [left.waits] at hx
  simpa using (List.mem_filter.mp hx).2

theorem KeepsSlots.scan {s t : State} (h : KeepsSlots s t) (b : BayIx) : KeepsSlots s (t.scan b) := by
  obtain ⟨-, e⟩ | ⟨x, found, e⟩ := scan_cases t b <;> rw [e]
  · exact h
  · exact fun start => slotsOk_answerEntry (h start) (List.mem_of_find?_eq_some found) ((Releases.refl _).grant _ _ _ _) _ _

theorem KeepsSlots.endEntry {s t : State} (h : KeepsSlots s t) {e : WaitEntry} (waiting : e ∈ t.waits) (st : Status) :
    KeepsSlots s (t.endEntry e st) := by
  have answered : KeepsSlots s ((t.dropEntry e.node).answerEntry e st .none) :=
    fun start => slotsOk_answerEntry (h start) waiting (.refl _) st .none
  unfold State.endEntry
  cases e.purpose with
  | unit tag => exact answered
  | batch l number => exact answered

end Sys2Proof.Machine
end

section
namespace Sys2Proof.Machine

/-! ### Purges, readings and close watches -/

theorem KeepsSlots.purgeOwned {s t : State} (h : KeepsSlots s t) (which : WaitEntry → Bool) (st : Status) (n : Node) :
    KeepsSlots s (t.purgeOwned which st n) := by
  unfold State.purgeOwned
  split
  · next found =>
    split
    · exact h.endEntry (List.mem_of_find?_eq_some found) st
    · exact h
  · exact h

theorem KeepsSlots.purge {s t : State} (h : KeepsSlots s t) (which : WaitEntry → Bool) (st : Status) :
    KeepsSlots s (t.purge which st) :=
  h.trans (purge_eq t which st ▸ KeepsSlots.foldl (fun u n => (KeepsSlots.refl u).purgeOwned which st n) allNodes t)

/-- What answers deferred closes alone keeps slots and lists in agreement. -/
theorem KeepsSlots.releases {s t u : State} (h : KeepsSlots s t) (k : Releases t u) : KeepsSlots s u := h.trans k.keeps

theorem KeepsSlots.readyOrFull {s t : State} (h : KeepsSlots s t) (b : BayIx) : KeepsSlots s (t.readyOrFull b) := by
  obtain ⟨-, e⟩ | ⟨-, e⟩ := readyOrFull_cases t b <;> rw [e]
  · exact (h.setBay b _).scan b
  · exact h

theorem KeepsSlots.takeSettledNet {s t : State} (h : KeepsSlots s t) (b : BayIx) (net : Nat) :
    KeepsSlots s (t.takeSettledNet b net) := by
  unfold State.takeSettledNet
  dsimp only
  split <;> exact h

theorem KeepsSlots.deliverReading {s t : State} (h : KeepsSlots s t) (b : BayIx) (p : WindowPurpose) (gross : Nat)
    (unstable : Bool) : KeepsSlots s (t.deliverReading b p gross unstable) := by
  cases p with
  | baseline =>
    unfold State.deliverReading State.deliverBaseline
    dsimp only
    split
    · exact (h.takeSettledNet b _).readyOrFull b
    · exact h
  | feedEnd =>
    unfold State.deliverReading State.deliverFeedEnd
    dsimp only
    split
    · exact h
    next f _ =>
    split
    · exact h
    have netted := h.takeSettledNet b ((t.bay b).settledNet gross)
    have noted : KeepsSlots s (if (weighedGain f.startNet ((t.bay b).settledNet gross) unstable).clampedNegative then
        (t.takeSettledNet b ((t.bay b).settledNet gross)).alarm .negativeGain (some b.val)
        else t.takeSettledNet b ((t.bay b).settledNet gross)) := by
      split
      · exact netted.alarm _ _ _
      · exact netted
    exact ((noted.releases ((Releases.refl _).bookGain b f _)).setFeed b none).readyOrFull b
  | zeroCapture => exact h

theorem KeepsSlots.confirmClose {s t : State} (h : KeepsSlots s t) (b : BayIx) : KeepsSlots s (t.confirmClose b) := by
  have confirmed : KeepsSlots s (t.setBay b { t.bay b with closeWatch := none }) := h
  unfold State.confirmClose
  dsimp only
  split
  · exact confirmed
  split
  · exact confirmed.releases ((Releases.refl _).leaveClosing b)
  split
  · exact confirmed
  · exact confirmed

theorem KeepsSlots.expireClose {s t : State} (h : KeepsSlots s t) (b : BayIx) : KeepsSlots s (t.expireClose b) :=
  (((h.setBay b _).alarm .valveFault (some b.val) 0).releases ((Releases.refl _).bookByEstimate b)).setFeed b none

theorem KeepsSlots.endFeed {s t : State} (h : KeepsSlots s t) (b : BayIx) (c : EndCause) :
    KeepsSlots s (t.endFeed b c) := h.releases ((Releases.refl t).endFeed b c)

theorem KeepsSlots.enterService {s t : State} (h : KeepsSlots s t) (b : BayIx) : KeepsSlots s (t.enterService b) :=
  h.releases ((Releases.refl t).enterService b)

/-- Feeds and entries of some classes are ended (R138, R142). -/
theorem KeepsSlots.cleared {s t : State} (h : KeepsSlots s t) (which : GasClass → Bool) (c : EndCause) (st : Status) :
    KeepsSlots s ((t.endFeeds which c).purge (fun e => which e.cls) st) :=
  (h.releases ((Releases.refl t).endFeeds which c)).purge _ st

theorem KeepsSlots.setInterlock {s t : State} (h : KeepsSlots s t) (i : Interlock) : KeepsSlots s (t.setInterlock i) := by
  have written : KeepsSlots s { t with interlock := i } := h
  unfold State.setInterlock
  dsimp only
  split
  · exact (written.cleared flammable .interlock .permitOff).alarm _ _ _
  · exact written

theorem assertEstop_keepsSlots (s : State) : KeepsSlots s (assertEstop s) := by
  have written : KeepsSlots s { s with interlock := { s.interlock with estop := true } } := KeepsSlots.refl s
  unfold assertEstop
  split
  · exact .refl s
  · exact (written.cleared (fun _ => true) .estop .estop).alarm _ _ _

/-! ### Requests about feeds and batches (Chapters 4, 5 and 7) -/

theorem askFeed_keepsSlots {s : State} {n : Node} (tag : Nat) {k : ReqKind} (g : GasClass) (w : WaitPurpose)
    (kind : k ∈ waitKinds) (slot : (s.node n).slot = .empty) : KeepsSlots s (s.askFeed n tag k g w).state := by
  unfold State.askFeed
  split
  · exact .refl s
  split
  · exact .refl s
  unfold State.decideFeed
  split
  · exact ((Releases.refl s).grant _ n w g).keeps
  split
  · exact slotsOk_joinWait tag g w kind slot
  · exact .refl s

theorem askForBatch_keepsSlots {s : State} {n : Node} (tag : Nat) {k : ReqKind} (l : FoamLine) (bt : Batch)
    (kind : k ∈ waitKinds) (slot : (s.node n).slot = .empty) : KeepsSlots s (askForBatch s n tag k l bt).state := by
  have asked := askFeed_keepsSlots tag bt.cls (.batch l bt.number) kind slot
  unfold askForBatch
  dsimp only
  split
  · exact asked
  · exact asked

theorem ownFoamOpen_keepsSlots (s : State) (n : Node) (tag cls : Nat) : KeepsSlots s (ownFoamOpen n tag cls s).state := by
  unfold ownFoamOpen
  split
  · exact .refl s
  · exact .refl s
  split
  · exact .refl s
  split
  · exact .refl s
  split
  · exact .refl s
  next slot =>
    exact ((KeepsSlots.refl s).setLine _ _).trans (askForBatch_keepsSlots tag _ _ (by decide) (by simpa using slot))

theorem ownFoamResume_keepsSlots (s : State) (n : Node) (tag : Nat) : KeepsSlots s (ownFoamResume n tag s).state := by
  unfold ownFoamResume
  split
  · exact .refl s
  split
  · exact .refl s
  split
  · exact .refl s
  split
  · exact .refl s
  split
  · exact .refl s
  split
  · exact .refl s
  next slot => exact askForBatch_keepsSlots tag _ _ (by decide) (by simpa using slot)

/-- A close is deferred where the slot is empty, whatever other closes have been answered (R78, R128). -/
theorem KeepsSlots.defer {s t : State} (h : KeepsSlots s t) {n : Node} (tag : Nat) (k : ReqKind)
    (empty : (t.node n).slot = .empty) : KeepsSlots s (t.defer n tag k) := h.trans (slotsOk_defer tag k empty)

theorem KeepsSlots.closeStalled {s t : State} (h : KeepsSlots s t) (n : Node) (tag : Nat) (l : FoamLine) (bt : Batch) :
    KeepsSlots s (closeStalled n tag l bt t).state := by
  unfold Machine.closeStalled
  split
  · exact h.releases ((Releases.refl t).completeBatch l)
  split
  · next empty => exact KeepsSlots.defer (t := t.modCurrent l _) h tag _ empty
  · exact h

theorem closeOpen_keepsSlots (s : State) (n : Node) (tag : Nat) (l : FoamLine) (b : BayIx) :
    KeepsSlots s (closeOpen n tag l b s).state := by
  have closed : Releases s ((s.modCurrent l (fun x => { x with state := .closing })).endFeed b .closed) :=
    ((Releases.refl s).setLine l _).endFeed b .closed
  unfold closeOpen
  dsimp only
  split
  · exact closed.keeps
  split
  · next empty => exact closed.keeps.defer tag _ (closed.empty empty)
  · exact .refl s

theorem ownFoamClose_keepsSlots (s : State) (n : Node) (tag : Nat) : KeepsSlots s (ownFoamClose n tag s).state := by
  have stalled : ∀ l bt, KeepsSlots s (closeStalled n tag l bt s).state := (KeepsSlots.refl s).closeStalled n tag
  unfold ownFoamClose
  split
  · exact .refl s
  split
  · exact .refl s
  split
  · exact .refl s
  · exact .refl s
  · exact stalled _ _
  · split
    · next found =>
      exact ((KeepsSlots.refl s).endEntry (List.mem_of_find?_eq_some found) .withdrawn).closeStalled n tag _ _
    · exact stalled _ _
  · split
    · exact closeOpen_keepsSlots s n tag _ _
    · exact stalled _ _

theorem ownFeedOpen_keepsSlots (s : State) (n : Node) (tag : Nat) : KeepsSlots s (ownFeedOpen n tag s).state := by
  unfold ownFeedOpen
  split
  · exact .refl s
  split
  · exact .refl s
  split
  · exact .refl s
  next slot =>
  split
  · exact .refl s
  · exact askFeed_keepsSlots tag _ _ (by decide) (by simpa using slot)

theorem Releases.storeEstimate {s t : State} (h : Releases s t) (b : BayIx) (f : Feed) :
    Releases s (t.storeEstimate b f) := by
  unfold State.storeEstimate
  dsimp only
  split
  · exact (h.setFeed b _).setBay b _
  · exact h.setFeed b _

theorem ownFeedProgress_keepsSlots (s : State) (n : Node) (flow : Nat) :
    KeepsSlots s (ownFeedProgress n flow s).state := by
  unfold ownFeedProgress
  split
  · rw [endedAnswer_state]
    exact .refl s
  next b f _ =>
  have stored := (Releases.refl s).storeEstimate b
    { f with estimate := 10 * flow, holdDeadline := some (s.now + 1000 * s.params.holdTime) }
  dsimp only
  split
  · rw [endedAnswer_state]
    exact (stored.endFeed b .full).keeps
  · exact stored.keeps

theorem ownFeedClose_keepsSlots (s : State) (n : Node) (tag flow : Nat) :
    KeepsSlots s (ownFeedClose n tag flow s).state := by
  unfold ownFeedClose
  split
  · split
    · exact .refl s
    · rw [endedAnswer_state]
      exact .refl s
  next b f _ =>
  have closed := ((Releases.refl s).storeEstimate b { f with estimate := 10 * flow }).endFeed b .closed
  dsimp only
  split
  · exact closed.keeps
  split
  · next empty => exact closed.keeps.defer tag _ (closed.empty empty)
  · exact .refl s

theorem ownFeedCancel_keepsSlots (s : State) (n : Node) : KeepsSlots s (ownFeedCancel n s).state := by
  unfold ownFeedCancel
  split
  · exact .refl s
  · next found => exact (KeepsSlots.refl s).endEntry (List.mem_of_find?_eq_some found) .withdrawn

end Sys2Proof.Machine
end

section
namespace Sys2Proof.Machine

/-! ### Requests that write no slot (Chapters 1, 2, 7, 8 and 10) -/

theorem ownAnnounce_keepsSlots (s : State) (unit category refr charge foam : Nat) :
    KeepsSlots s (ownAnnounce unit category refr charge foam s).state := by
  unfold ownAnnounce
  repeat' split
  all_goals exact .refl s

theorem ownDegasBegin_keepsSlots (s : State) (n : Node) (unit cls : Nat) :
    KeepsSlots s (ownDegasBegin n unit cls s).state := by
  unfold ownDegasBegin
  dsimp only
  repeat' split
  all_goals exact .refl s

theorem ownDegasEnd_keepsSlots (s : State) (n : Node) (outcome : Nat) :
    KeepsSlots s (ownDegasEnd n outcome s).state := by
  have complete (u : UnitRec) : KeepsSlots s (endComplete s u).state := by
    unfold endComplete
    dsimp only
    split <;> exact .refl s
  unfold ownDegasEnd
  split
  · exact .refl s
  split
  · exact .refl s
  split
  · exact .refl s
  split
  · exact complete _
  split
  · split
    · exact .refl s
    · exact complete _
  · exact .refl s

theorem ownUnitRelease_keepsSlots (s : State) (unit : Nat) : KeepsSlots s (ownUnitRelease unit s).state := by
  unfold ownUnitRelease
  repeat' split
  all_goals exact .refl s

theorem ownCabinetAdmit_keepsSlots (s : State) (n : Node) (unit cls : Nat) :
    KeepsSlots s (ownCabinetAdmit n unit cls s).state := by
  unfold ownCabinetAdmit
  dsimp only
  repeat' split
  all_goals exact .refl s

theorem ownVesselMount_keepsSlots (s : State) (bay vid cls capacity tare : Nat) :
    KeepsSlots s (ownVesselMount bay vid cls capacity tare s).state := by
  unfold ownVesselMount
  split
  · split
    · exact .refl s
    split
    · exact .refl s
    split
    · exact .refl s
    split
    · exact .refl s
    next b g _ _ _ _ _ _ =>
      have written : KeepsSlots s (((s.setBay b ((s.bay b).mounted ⟨vid, g, capacity, tare⟩)).setFeed b
        none).beginWrite b (.definition ⟨vid, g, capacity, tare⟩ (s.bay b).zero (s.bay b).scale)) := .refl s
      exact written.enterService b
  · exact .refl s

theorem ownVesselRetire_keepsSlots (s : State) (bay : Nat) : KeepsSlots s (ownVesselRetire bay s).state := by
  unfold ownVesselRetire
  repeat' split
  all_goals exact .refl s

theorem ownCalibrate_keepsSlots (s : State) (bay zeroAt scale : Nat) :
    KeepsSlots s (ownCalibrate bay zeroAt scale s).state := by
  unfold ownCalibrate
  split
  · exact .refl s
  next b _ =>
  split
  · exact .refl s
  split
  · exact .refl s
  split
  · exact .refl s
  have written : KeepsSlots s ((s.setBay b { s.bay b with zero := zeroAt, scale := scale }).beginWrite b
    ((s.bay b).calibrationRecord zeroAt scale)) := KeepsSlots.refl s
  dsimp only
  split
  · exact written
  · exact written.enterService b

theorem ownZeroCapture_keepsSlots (s : State) (bay scale : Nat) : KeepsSlots s (ownZeroCapture bay scale s).state := by
  unfold ownZeroCapture
  repeat' split
  all_goals exact .refl s

theorem ownClearFault_keepsSlots (s : State) (bay : Nat) : KeepsSlots s (ownClearFault bay s).state := by
  unfold ownClearFault
  split
  · exact .refl s
  split
  · exact .refl s
  · exact (KeepsSlots.refl s).enterService _

theorem reviewBay_keepsSlots (s : State) (b : BayIx) : KeepsSlots s (s.reviewBay b) := by
  unfold State.reviewBay
  repeat' split
  all_goals exact .refl s

theorem ownSetParam_keepsSlots (s : State) (id value : Nat) : KeepsSlots s (ownSetParam id value s).state := by
  unfold ownSetParam
  split
  · exact .refl s
  next lo hi _ =>
  have set : KeepsSlots s { s with params := s.params.setId id (clamp lo hi value) } := KeepsSlots.refl s
  unfold appliedAnswer State.applyParam
  dsimp only
  split
  · exact (set.trans (KeepsSlots.foldl reviewBay_keepsSlots allBays _)).trans
      (KeepsSlots.foldl (fun t b => (KeepsSlots.refl t).scan b) _ _)
  · exact set

theorem ownSetExpect_keepsSlots (s : State) (category cls grams : Nat) :
    KeepsSlots s (ownSetExpect category cls grams s).state := by
  unfold ownSetExpect
  split <;> exact .refl s

theorem ownReplyLimit_keepsSlots (s : State) (n : Node) (bytes : Nat) :
    KeepsSlots s (ownReplyLimit n bytes s).state :=
  (KeepsSlots.refl s).setNode n (r := { s.node n with replyLimit := clamp 48 512 bytes }) rfl

theorem ownLinkOptions_keepsSlots (s : State) (n : Node) (options : Nat) :
    KeepsSlots s (ownLinkOptions n options s).state :=
  (KeepsSlots.refl s).setNode n
    (r := { s.node n with burstHalt := options.testBit 0, fixedLength := options.testBit 1 }) rfl

theorem ownLinkStats_keepsSlots (s : State) (n : Node) (addr : Nat) : KeepsSlots s (ownLinkStats n addr s).state := by
  unfold ownLinkStats
  split
  · exact .refl s
  split
  · exact .refl s
  · exact (KeepsSlots.refl s).setNode _ rfl

theorem ownSetDigest_keepsSlots (s : State) (n : Node) (items : List (Nat × Nat)) :
    KeepsSlots s (ownSetDigest n items s).state := by
  unfold ownSetDigest
  split
  · exact (KeepsSlots.refl s).setNode n rfl
  · exact .refl s

theorem ownAlarmRead_keepsSlots (s : State) (group : Nat) : KeepsSlots s (ownAlarmRead group s).state := by
  unfold ownAlarmRead
  split <;> exact .refl s

theorem ownPermit_keepsSlots (s : State) (value : Nat) : KeepsSlots s (ownPermit value s).state := by
  unfold ownPermit
  split
  · exact .refl s
  · exact (KeepsSlots.refl s).setInterlock _

/-! ### Taking a request -/

theorem take_keepsSlots {act : State → Taken} {s : State} (h : KeepsSlots s (act s).state) (n : Node) (tag : Nat)
    (k : ReqKind) : KeepsSlots s (take n tag k act s) := by
  unfold take
  dsimp only
  split
  · exact h
  · exact .refl s

theorem takeRequest_keepsSlots (i : Instr) (s : State) : KeepsSlots s (takeRequest i s) := by
  have stands {t : Taken} (h : t.state = s) : KeepsSlots s t.state := by rw [h]; exact .refl s
  cases i with
  | replyLimit n t bytes => exact take_keepsSlots (ownReplyLimit_keepsSlots s n bytes) n t _
  | linkOptions n t options => exact take_keepsSlots (ownLinkOptions_keepsSlots s n options) n t _
  | linkStats n t addr => exact take_keepsSlots (ownLinkStats_keepsSlots s n addr) n t _
  | setDigest n t items => exact take_keepsSlots (ownSetDigest_keepsSlots s n items) n t _
  | alarmRead n t group => exact take_keepsSlots (ownAlarmRead_keepsSlots s group) n t _
  | setParam n t id value => exact take_keepsSlots (ownSetParam_keepsSlots s id value) n t _
  | permit n t value => exact take_keepsSlots (ownPermit_keepsSlots s value) n t _
  | feedOpen n t => exact take_keepsSlots (ownFeedOpen_keepsSlots s n t) n t _
  | feedProgress n t flow => exact take_keepsSlots (ownFeedProgress_keepsSlots s n flow) n t _
  | feedClose n t flow => exact take_keepsSlots (ownFeedClose_keepsSlots s n t flow) n t _
  | feedCancel n t => exact take_keepsSlots (ownFeedCancel_keepsSlots s n) n t _
  | feedOutcome n t => exact take_keepsSlots (stands (ownFeedOutcome_state s n)) n t _
  | foamOpen n t cls => exact take_keepsSlots (ownFoamOpen_keepsSlots s n t cls) n t _
  | foamResume n t => exact take_keepsSlots (ownFoamResume_keepsSlots s n t) n t _
  | foamClose n t => exact take_keepsSlots (ownFoamClose_keepsSlots s n t) n t _
  | cabinetAdmit n t unit cls => exact take_keepsSlots (ownCabinetAdmit_keepsSlots s n unit cls) n t _
  | batchQuery n t line slot => exact take_keepsSlots (stands (ownBatchQuery_state s line slot)) n t _
  | setExpect n t category cls grams => exact take_keepsSlots (ownSetExpect_keepsSlots s category cls grams) n t _
  | announce n t unit category refr charge foam =>
    exact take_keepsSlots (ownAnnounce_keepsSlots s unit category refr charge foam) n t _
  | degasBegin n t unit cls => exact take_keepsSlots (ownDegasBegin_keepsSlots s n unit cls) n t _
  | degasEnd n t outcome => exact take_keepsSlots (ownDegasEnd_keepsSlots s n outcome) n t _
  | unitQuery n t unit => exact take_keepsSlots (stands (ownUnitQuery_state s unit)) n t _
  | unitRelease n t unit => exact take_keepsSlots (ownUnitRelease_keepsSlots s unit) n t _
  | vesselQuery n t bay => exact take_keepsSlots (stands (ownVesselQuery_state s bay)) n t _
  | vesselMount n t bay vid cls capacity tare =>
    exact take_keepsSlots (ownVesselMount_keepsSlots s bay vid cls capacity tare) n t _
  | vesselRetire n t bay => exact take_keepsSlots (ownVesselRetire_keepsSlots s bay) n t _
  | vesselClearFault n t bay => exact take_keepsSlots (ownClearFault_keepsSlots s bay) n t _
  | calibrate n t bay zeroAt scale => exact take_keepsSlots (ownCalibrate_keepsSlots s bay zeroAt scale) n t _
  | calibrateZeroCapture n t bay scale => exact take_keepsSlots (ownZeroCapture_keepsSlots s bay scale) n t _
  | _ => exact .refl s

theorem takeFrame_keepsSlots (n : Node) (f : ReqFrame) (s : State) : KeepsSlots s (takeFrame n f s) := by
  unfold takeFrame
  split
  · exact takeRequest_keepsSlots _ s
  · exact take_keepsSlots (.refl s) n f.tag f.kind

theorem takeAll_keepsSlots (n : Node) (fs : List ReqFrame) (s : State) : KeepsSlots s (takeAll n fs s).1 := by
  induction fs generalizing s with
  | nil => exact .refl s
  | cons f rest ih => exact (takeFrame_keepsSlots n f s).trans (ih _)

/-! ### Samples and deadlines (Chapters 2 to 5) -/

theorem loseChannel_keepsSlots (s : State) (b : BayIx) : KeepsSlots s (s.loseChannel b) := by
  have lost : KeepsSlots s (((s.setChannel b (s.channel b).lose).alarm .channelLost (some b.val)).dropCapture b) := by
    unfold State.dropCapture
    split
    · split <;> exact .refl s
    · exact .refl s
  unfold State.loseChannel State.handLoss
  split
  · exact lost
  · exact lost
  · split
    · exact lost
    · exact lost
  · exact lost.releases (((Releases.refl _).bookByEstimate b).leaveClosing b)
  · exact lost

theorem KeepsSlots.returnChannel {s t : State} (h : KeepsSlots s t) (b : BayIx) :
    KeepsSlots s (t.returnChannel b) := by
  have opened : KeepsSlots s (t.setChannel b { t.channel b with state := .ok }) := h
  unfold State.returnChannel
  dsimp only
  split
  · exact opened.enterService b
  · split
    · exact opened
    · exact opened
  · exact opened

theorem judgeSet_keepsSlots (s : State) (b : BayIx) (w : Window) (xs : List Nat) :
    KeepsSlots s (s.judgeSet b w xs) := by
  have ended : KeepsSlots s (s.setChannel b { s.channel b with window := none }) := KeepsSlots.refl s
  unfold State.judgeSet
  dsimp only
  split
  · exact ended.deliverReading b _ _ _
  split
  · exact .refl s
  · exact (ended.alarm _ _ _).deliverReading b _ _ _

theorem KeepsSlots.finishCapture {s t : State} (h : KeepsSlots s t) (b : BayIx) (codes : List Nat) :
    KeepsSlots s (t.finishCapture b codes) := by
  unfold State.finishCapture
  split
  · split
    · exact h
    · exact h
  · exact h

theorem collect_keepsSlots (s : State) (b : BayIx) (raw gross : Nat) : KeepsSlots s (s.collect b raw gross) := by
  unfold State.collect
  split
  · exact .refl s
  split
  · exact .refl s
  next w _ _ _ =>
  dsimp only
  generalize w.samples ++ [if w.purpose = .zeroCapture then raw else gross] = taken
  split
  · exact .refl s
  split
  · exact ((KeepsSlots.refl s).setChannel b _).finishCapture b taken
  · exact judgeSet_keepsSlots s b _ _

theorem KeepsSlots.watchOverfill {s t : State} (h : KeepsSlots s t) (b : BayIx) : KeepsSlots s (t.watchOverfill b) := by
  unfold State.watchOverfill
  split
  · exact h.endFeed b .full
  · exact h

theorem invalidSample_keepsSlots (s : State) (b : BayIx) : KeepsSlots s (s.invalidSample b) := by
  unfold State.invalidSample
  split
  · exact loseChannel_keepsSlots s b
  · exact .refl s

theorem takeSample_keepsSlots (b : BayIx) (x : SampleIn) (s : State) : KeepsSlots s (takeSample b x s) := by
  have heard (c : Channel) : KeepsSlots s (s.setChannel b c) := KeepsSlots.refl s
  cases x with
  | converterFault => exact invalidSample_keepsSlots s b
  | code raw =>
    unfold takeSample State.validSample
    dsimp only
    split
    · split
      · exact ((heard _).watchOverfill b).trans (collect_keepsSlots _ b raw _)
      split
      · exact ((heard _).returnChannel b).watchOverfill b
      · exact heard _
    · exact invalidSample_keepsSlots s b

theorem passSilence_keepsSlots (b : BayIx) (arrival : Nat) (s : State) : KeepsSlots s (passSilence b arrival s) := by
  have advanced : KeepsSlots s (s.advance arrival) := KeepsSlots.refl s
  unfold passSilence
  dsimp only
  split
  · exact advanced.trans (invalidSample_keepsSlots _ b)
  · exact advanced

theorem passSettle_keepsSlots (b : BayIx) (arrival : Nat) (s : State) : KeepsSlots s (passSettle b arrival s) := by
  unfold passSettle
  dsimp only
  repeat' split
  all_goals exact .refl s

theorem passHold_keepsSlots (b : BayIx) (arrival : Nat) (s : State) : KeepsSlots s (passHold b arrival s) := by
  have advanced : KeepsSlots s (s.advance arrival) := KeepsSlots.refl s
  unfold passHold
  dsimp only
  split
  · exact advanced
  split
  · exact advanced.endFeed b .abandoned
  · exact advanced

theorem passWait_keepsSlots (n : Node) (arrival : Nat) (s : State) : KeepsSlots s (passWait n arrival s) := by
  have advanced : KeepsSlots s (s.advance arrival) := KeepsSlots.refl s
  unfold passWait
  dsimp only
  split
  · exact advanced
  next found =>
  split
  · exact (advanced.endEntry (List.mem_of_find?_eq_some found) .waitExpired).alarm _ _ _
  · exact advanced

theorem switchCloses_keepsSlots (b : BayIx) (s : State) : KeepsSlots s (switchCloses b s) := by
  have read : KeepsSlots s (s.setSwitch b true) := KeepsSlots.refl s
  unfold switchCloses
  dsimp only
  split
  · exact read.confirmClose b
  · exact read

theorem passCloseWatch_keepsSlots (b : BayIx) (arrival : Nat) (s : State) :
    KeepsSlots s (passCloseWatch b arrival s) := by
  have advanced : KeepsSlots s (s.advance arrival) := KeepsSlots.refl s
  unfold passCloseWatch
  dsimp only
  split
  · exact advanced.expireClose b
  · exact advanced

end Sys2Proof.Machine
end

section
namespace Sys2Proof.Machine

/-! ### The plant line (Chapter 9)

What the line does to slots and lists: frames join or leave those being sent, a connection begins, goes on or ends, and
addresses leave the delivery list with their slots. -/

/-- No slot reply is among the frames being sent. -/
abbrev Pli.silent (p : Pli) : Prop := p.sending.any OutFrame.isSlotReply = false

theorem slotReplies_eq_nil {fs : List OutFrame} (silent : fs.any OutFrame.isSlotReply = false) :
    fs.filter OutFrame.isSlotReply = [] := by simpa [List.filter_eq_nil_iff] using silent

/-- The line goes on without a slot reply being sent. -/
theorem KeepsSlots.silence {s t : State} (h : KeepsSlots s t) {p : Pli} (silent : p.silent)
    (delivery : p.delivery = t.pli.delivery) : KeepsSlots s (t.setPli p) := by
  refine h.trans fun ⟨nodup, deferred, single, listed, _, _⟩ =>
    ⟨nodup, deferred, delivery.symm ▸ single, fun n => delivery.symm ▸ listed n, ?_, fun c _ reply => ?_⟩
  · exact (congrArg List.length (slotReplies_eq_nil silent)).trans_le (Nat.zero_le 1)
  · exact absurd (reply.symm.trans silent) nofun

/-- Some of the frames go on being sent, to the same partner. -/
theorem KeepsSlots.sent {s t : State} (h : KeepsSlots s t) {p : Pli} (fewer : p.sending.Sublist t.pli.sending)
    (partner : p.conn.map (·.partner) = t.pli.conn.map (·.partner)) (delivery : p.delivery = t.pli.delivery) :
    KeepsSlots s (t.setPli p) := by
  refine h.trans fun ⟨nodup, deferred, single, listed, one, stands⟩ =>
    ⟨nodup, deferred, delivery.symm ▸ single, fun n => delivery.symm ▸ listed n, ?_, fun c hc reply => ?_⟩
  · exact (fewer.filter OutFrame.isSlotReply).length_le.trans one
  · have told := congrArg (c.partner ∈ ·) partner
    simp only [Option.mem_map, eq_iff_iff] at told
    obtain ⟨c', hc', same⟩ := told.mp ⟨c, hc, rfl⟩
    obtain ⟨f, sent, isReply⟩ := List.any_eq_true.mp reply
    exact same ▸ stands c' hc' (List.any_eq_true.mpr ⟨f, fewer.subset sent, isReply⟩)

/-- Frames that are no slot reply join those being sent (R152). -/
theorem KeepsSlots.send {s t : State} (h : KeepsSlots s t) {fs : List OutFrame}
    (others : fs.any OutFrame.isSlotReply = false) :
    KeepsSlots s (t.setPli { t.pli with sending := t.pli.sending ++ fs }) := by
  refine h.trans fun ⟨nodup, deferred, single, listed, one, stands⟩ =>
    ⟨nodup, deferred, single, listed, ?_, fun c hc reply => stands c hc ?_⟩
  · have none := slotReplies_eq_nil others
    simpa only [State.setPli_pli, List.filter_append, none, List.append_nil] using one
  · simpa [others] using reply

theorem countError_slot (r : NodeRec) : r.countError.slot = r.slot := by
  unfold NodeRec.countError
  split <;> rfl

theorem KeepsSlots.countError {s t : State} (h : KeepsSlots s t) (n : Node) : KeepsSlots s (t.countError n) :=
  h.setNode n (countError_slot _)

theorem KeepsSlots.addError {s t : State} (h : KeepsSlots s t) (e : ErrBit) : KeepsSlots s (t.addError e) :=
  h.sent (List.Sublist.refl _) rfl rfl

theorem KeepsSlots.discardFrame {s t : State} (h : KeepsSlots s t) (c : Conn) (e : ErrBit) :
    KeepsSlots s (t.discardFrame c e) := by
  have counted := (h.addError e).countError c.partner
  unfold State.discardFrame State.haltBurst
  dsimp only
  split
  · split
    · exact counted.sent (List.Sublist.refl _) rfl rfl
    · exact counted
  · exact h.addError e

theorem KeepsSlots.keepRequest {s t : State} (h : KeepsSlots s t) (c : Conn) (f : ReqFrame) :
    KeepsSlots s (t.keepRequest c f) := by
  unfold State.keepRequest
  split
  · exact h.discardFrame c .burstOver
  split
  · exact h.discardFrame c .skipped
  · exact h.sent (List.Sublist.refl _) rfl rfl

theorem KeepsSlots.touch {s t : State} (h : KeepsSlots s t) : KeepsSlots s t.touch := by
  refine h.sent (List.Sublist.refl _) ?_ rfl
  rw [Option.map_map]
  refine Option.map_congr fun c _ => ?_
  dsimp only [Function.comp]
  split <;> rfl

/-! #### The reply burst (R151, R152) -/

/-- The digest cursor of a node moves on, and no slot with it (R175). -/
theorem afterReply_slots (s : State) (n : Node) (st : Status) (k : ReqKind) (b : Body) (m : Node) :
    ((s.afterReply n st k b).node m).slot = (s.node m).slot := by
  have moved (cursor : Nat) : ((s.setNode n { s.node n with cursor := cursor }).node m).slot = (s.node m).slot :=
    setNode_slots (r := { s.node n with cursor := cursor }) rfl m
  unfold State.afterReply State.moveCursor
  dsimp only
  split
  · rfl
  · exact moved _

theorem KeepsSlots.afterReply {s t : State} (h : KeepsSlots s t) (n : Node) (st : Status) (k : ReqKind) (b : Body) :
    KeepsSlots s (t.afterReply n st k b) := by
  refine h.frame ⟨?_, afterReply_pli t n st k b, afterReply_slots t n st k b⟩
  unfold State.afterReply State.moveCursor
  dsimp only
  split <;> rfl

/-- The slot reply of the partner joins the frames being sent, where none is (R152, R154). -/
theorem KeepsSlots.sendSlotReply {s t : State} (h : KeepsSlots s t) (n : Node) (silent : t.pli.silent)
    (partner : ∀ c ∈ t.pli.conn, c.partner = n) : KeepsSlots s (t.sendSlotReply n) := by
  unfold State.sendSlotReply
  split
  · exact h
  next r held =>
  have slots := afterReply_slots t n r.status r.kind r.body
  have pli := afterReply_pli t n r.status r.kind r.body
  refine fun start => ?_
  obtain ⟨nodup, deferred, single, listed, -, -⟩ := h.afterReply n r.status r.kind r.body start
  refine ⟨nodup, deferred, single, listed, ?_, fun c hc _ => ?_⟩
  · rw [State.setPli_pli, pli]
    dsimp only
    rw [List.filter_append, slotReplies_eq_nil silent]
    exact List.length_filter_le _ _
  · have same := partner c (pli ▸ hc)
    rw [same]
    exact (congrArg (fun x : Slot => x.reply?.isSome) (slots n)).trans (by rw [held]; rfl)

theorem KeepsSlots.composeBurst {s t : State} (h : KeepsSlots s t) {c : Conn} (conn : t.pli.conn = some c) (bursts : Nat)
    (answers : List Answer) : KeepsSlots s (t.composeBurst c.partner bursts answers) := by
  have replied (u : State) (a : Answer) : KeepsSlots u (u.sendAnswer c.partner a) :=
    ((KeepsSlots.refl u).afterReply _ _ _ _).send rfl
  have cleared : KeepsSlots s (t.setPli { t.pli with sending := [] }) := h.silence rfl rfl
  have slot := cleared.sendSlotReply c.partner rfl fun d hd => by rw [Option.some.inj (hd.symm.trans conn)]
  refine (slot.trans (KeepsSlots.foldl replied answers _)).send ?_
  unfold burstTail
  repeat' split
  all_goals rfl

theorem takeTurn_keepsSlots {s : State} {c : Conn} (conn : s.pli.conn = some c) : KeepsSlots s (s.takeTurn c) := by
  have held : (takeAll c.partner s.pli.buffer s).1.pli.conn = some c := by
    rw [(takeAll_acts c.partner s.pli.buffer s).delivers]
    exact conn
  have turned : KeepsSlots s ((takeAll c.partner s.pli.buffer s).1.setPli { (takeAll c.partner s.pli.buffer s).1.pli with
      buffer := [], halted := false, conn := some { c with turn := .gx, deadline := none } }) :=
    (takeAll_keepsSlots c.partner s.pli.buffer s).sent (List.Sublist.refl _) (by rw [held]; rfl) rfl
  exact turned.composeBurst (c := { c with turn := .gx, deadline := none }) rfl c.bursts _

/-! #### Frames of a connection (R150, R151, R158) -/

theorem KeepsSlots.endConn {s t : State} (h : KeepsSlots s t) : KeepsSlots s t.endConn := h.silence rfl rfl

theorem KeepsSlots.endConnWithEnd {s t : State} (h : KeepsSlots s t) : KeepsSlots s t.endConnWithEnd := h.silence rfl rfl

theorem KeepsSlots.keepFrame {s t : State} (h : KeepsSlots s t) {c : Conn} (conn : t.pli.conn = some c) (f : Kept) :
    KeepsSlots s (t.keepFrame c f) := by
  unfold State.keepFrame
  split
  · cases f with
    | request r => exact (h.keepRequest c r).touch
    | ctrl k =>
      cases k with
      | fill => exact h.touch
      | turn => exact h.trans (takeTurn_keepsSlots conn)
      | endFrame => exact h.endConn
      | _ => exact (h.discardFrame c .outOfPlace).touch
  · exact h.discardFrame c .outOfPlace

theorem receive_keepsSlots (raw : RawFrame) (s : State) : KeepsSlots s (receive raw s) := by
  have noted (corrected : Bool) : KeepsSlots s (s.noteFixed corrected) := by
    unfold State.noteFixed
    split
    · exact (KeepsSlots.refl s).addError _
    · exact .refl s
  unfold receive
  split
  · next c opened =>
    obtain ⟨-, conn⟩ := openConn_eq_some opened
    cases checkFrame c.partner raw with
    | discard e corrected => exact ((noted corrected).discardFrame c e).touch
    | keep f corrected => exact (noted corrected).keepFrame ((noteFixed_conn s corrected).trans conn) f
  · exact .refl s

theorem takeEnd_keepsSlots (raw : RawFrame) (s : State) : KeepsSlots s (takeEnd raw s) := by
  unfold takeEnd
  split
  · exact (KeepsSlots.refl s).endConn
  · exact receive_keepsSlots raw s

/-! #### Selections (R148, R149, R154, R155) -/

theorem takeArbitration_keepsSlots (masters : List (BitVec 4)) (s : State) :
    KeepsSlots s (takeArbitration masters s) := by
  unfold takeArbitration
  split
  · split
    · exact (KeepsSlots.refl s).silence rfl rfl
    · exact .refl s
  · exact .refl s

theorem takeSelect_keepsSlots (raw : RawFrame) (s : State) : KeepsSlots s (takeSelect raw s) := by
  unfold takeSelect
  split
  · split
    · exact (KeepsSlots.refl s).silence rfl rfl
    · exact .refl s
  · exact receive_keepsSlots raw s

theorem completeSelection_keepsSlots (s : State) : KeepsSlots s (completeSelection s) := by
  unfold completeSelection
  split
  · next n _ _ =>
    have connected : KeepsSlots s (s.setPli { s.pli.dropped .connected with conn := some (s.masterConn n) }) :=
      (KeepsSlots.refl s).silence rfl rfl
    exact connected.setNode n rfl
  · exact .refl s

theorem reselect_keepsSlots (s : State) : KeepsSlots s (reselect s) := by
  unfold reselect
  split
  · exact .refl s
  split
  · exact (KeepsSlots.refl s).silence rfl rfl
  · exact .refl s

theorem deliverReselected_keepsSlots (s : State) (c : Conn) : KeepsSlots s (s.deliverReselected c) := by
  have connected : KeepsSlots s (s.setPli { s.pli.dropped .connected with conn := some c }) :=
    (KeepsSlots.refl s).silence rfl rfl
  have present := connected.setNode c.partner (r := { s.node c.partner with presence := .present }) rfl
  exact (present.sendSlotReply c.partner rfl fun d hd => by rw [Option.some.inj hd]).send (fs := [.endFrame]) rfl

theorem takeSelectAck_keepsSlots (raw : RawFrame) (s : State) : KeepsSlots s (takeSelectAck raw s) := by
  unfold takeSelectAck
  split
  · split
    · split
      · exact deliverReselected_keepsSlots s _
      · exact .refl s
    · split
      · exact (KeepsSlots.refl s).silence rfl rfl
      · exact .refl s
  · exact receive_keepsSlots raw s

/-! #### Slots that lose a DELIVERABLE reply, and line resets (R152, R153, R155, R157) -/

/-- A slot that holds no DELIVERABLE reply any more leaves the delivery list with its node; no slot reply is being sent
from then on. -/
theorem slotsOk_undeliver {s : State} {n : Node} {r : NodeRec} {p : Pli} (ok : SlotsOk s)
    (waiting : ∀ e ∈ s.waits, e.node = n → r.slot = (s.node n).slot) (after : r.slot.isDeliverable = false)
    (silent : p.silent) (delivery : p.delivery = s.pli.delivery.filter (· != n)) : SlotsOk ((s.setNode n r).setPli p) := by
  obtain ⟨nodup, deferred, single, listed, -, -⟩ := ok
  have other {m : Node} (e : m ≠ n) : ((s.setNode n r).setPli p).node m = s.node m := State.setNode_node_ne s n r m e
  have own : ((s.setNode n r).setPli p).node n = r := State.setNode_node s n r
  refine ⟨nodup, fun e he => ?_, ?_, fun m => ?_, ?_, fun c _ reply => ?_⟩
  · by_cases same : e.node = n
    · rw [same, own, waiting e he same, ← same]
      exact deferred e he
    · rw [other same]
      exact deferred e he
  · rw [State.setPli_pli, delivery]
    exact single.filter _
  · rw [State.setPli_pli, delivery]
    by_cases e : m = n
    · simp [e, own, after]
    · simp [e, other e, listed m]
  · exact (congrArg List.length (slotReplies_eq_nil silent)).trans_le (Nat.zero_le 1)
  · exact absurd (reply.symm.trans silent) nofun

theorem hold_isDeliverable (x : Slot) : x.hold.isDeliverable = false := by cases x <;> rfl

/-- A reselection that nobody answers (R155). -/
theorem failReselection_keepsSlots (s : State) (n : Node) : KeepsSlots s (s.failReselection n) := by
  intro ok
  have held := slotsOk_undeliver (r := { s.node n with slot := (s.node n).slot.hold, presence := .unreachable })
    (p := { s.pli.dropped .free with sending := [.endFrame], delivery := s.pli.delivery.filter (· != n) }) ok
    (fun e waiting same => ?_) (hold_isDeliverable _) rfl rfl
  · exact (KeepsSlots.refl _).alarm .nodeUnreachable (some (nodeAddr n)) 0 held
  · obtain ⟨-, deferred, -⟩ := ok
    simp only [← same, (deferred e waiting).2, Slot.hold]

theorem passReselection_keepsSlots (arrival : Nat) (s : State) : KeepsSlots s (passReselection arrival s) := by
  have advanced : KeepsSlots s (s.advance arrival) := KeepsSlots.refl s
  unfold passReselection
  dsimp only
  split
  · split
    · exact advanced.trans (failReselection_keepsSlots _ _)
    · exact advanced
  · exact advanced

theorem passTurn_keepsSlots (arrival : Nat) (s : State) : KeepsSlots s (passTurn arrival s) := by
  have advanced : KeepsSlots s (s.advance arrival) := KeepsSlots.refl s
  unfold passTurn
  dsimp only
  split
  · split
    · exact (advanced.countError _).endConnWithEnd
    · exact advanced
  · exact advanced

theorem KeepsSlots.returnHeld {s t : State} (h : KeepsSlots s t) (c : Conn) : KeepsSlots s (t.returnHeld c) := by
  unfold State.returnHeld
  split
  · next r held =>
    split
    · refine h.trans fun ok => slotsOk_deliver r (no_entry ok fun tag k slot => ?_) (by rw [held]; rfl) ok
      exact absurd (held.symm.trans slot) nofun
    · exact h
  · exact h

theorem KeepsSlots.takeLineReset {s t : State} (h : KeepsSlots s t) (receiving : Bool) :
    KeepsSlots s (takeLineReset receiving t) := by
  unfold Machine.takeLineReset State.abandonLine
  split
  · exact h
  split
  · exact h.silence rfl rfl
  next c _ =>
  have counted : KeepsSlots s (if receiving then t.countError c.partner else t) := by
    split
    · exact h.countError c.partner
    · exact h
  exact (counted.returnHeld c).silence rfl rfl

theorem releaseLine_keepsSlots (s : State) : KeepsSlots s (releaseLine s) := by
  unfold releaseLine
  split
  · have freed : KeepsSlots s (s.setPli { s.pli.dropped .free with claimHold := none }) :=
      (KeepsSlots.refl s).silence rfl rfl
    exact freed.alarm _ _ _
  · exact .refl s

theorem passIdle_keepsSlots (arrival : Nat) (s : State) : KeepsSlots s (passIdle arrival s) := by
  have advanced : KeepsSlots s (s.advance arrival) := KeepsSlots.refl s
  unfold passIdle
  dsimp only
  split
  · exact advanced
  · exact (advanced.takeLineReset false).sent (List.Sublist.refl _) rfl rfl

/-! #### Frames sent whole (R152, R154) -/

/-- The slot reply of the partner is the only one being sent, and stands in its slot until then (R152). -/
theorem slotReplySent_keepsSlots (s : State) : KeepsSlots s (slotReplySent s) := by
  unfold slotReplySent
  split
  · next c tag bytes rest opened sending =>
    obtain ⟨-, conn⟩ := openConn_eq_some opened
    intro ok
    obtain ⟨-, deferred, -, -, one, stands⟩ := id ok
    have held := stands c conn (by rw [sending]; rfl)
    have silent : rest.any OutFrame.isSlotReply = false := by
      rw [sending] at one
      simpa [List.filter_cons, OutFrame.isSlotReply] using one
    refine slotsOk_undeliver (r := { s.node c.partner with slot := .empty })
      (p := { s.pli with sending := rest, delivery := s.pli.delivery.filter (· != c.partner) }) ok
      (fun e waiting same => ?_) rfl silent rfl
    rw [← same, (deferred e waiting).2] at held
    exact absurd held nofun
  · exact .refl s

theorem reportSent_keepsSlots (s : State) : KeepsSlots s (reportSent s) := by
  unfold reportSent
  split
  · next heads =>
    exact (KeepsSlots.refl s).sent ((List.sublist_cons_self _ _).trans (heads ▸ (afterReplies_suffix _).sublist)) rfl rfl
  · exact .refl s

theorem burstEndSent_keepsSlots (s : State) : KeepsSlots s (burstEndSent s) := by
  unfold burstEndSent
  split
  · split
    · exact (KeepsSlots.refl s).silence rfl rfl
    · exact .refl s
  · exact (KeepsSlots.refl s).endConn
  · exact (KeepsSlots.refl s).silence rfl rfl
  · exact .refl s

/-! ### Inputs, power and time -/

theorem startUp_keepsSlots (s : State) : KeepsSlots s (startUp s) := fun _ => (startUp_poweredOn s).slotsOk

theorem assertReset_keepsSlots (s : State) : KeepsSlots s (assertReset s) := by
  unfold assertReset
  split
  · exact .refl s
  · exact ((KeepsSlots.refl s).silence (p := s.pli.silenced) rfl rfl)

/-- The PLI lets go of the claim pair (R157). -/
theorem KeepsSlots.dropClaim {s t : State} (h : KeepsSlots s t) : KeepsSlots s t.dropClaim := by
  unfold State.dropClaim
  split
  · exact h.sent (List.Sublist.refl _) rfl rfl
  · exact h

theorem tick_keepsSlots (s : State) : KeepsSlots s (tick s) := by
  have later : KeepsSlots s { s with now := s.now + 1 } := KeepsSlots.refl s
  unfold tick
  dsimp only
  split
  · exact later
  · exact later.dropClaim

/-! ### Every command, every step -/

theorem live_keepsSlots {act : State → State} {s t : State} (h : KeepsSlots s (act s))
    (e : live act s = .next t) : KeepsSlots s t := by
  rw [live_spec] at e
  obtain rfl := Host.Outcome.next.inj e
  split
  · exact .refl s
  · exact h

theorem next_keepsSlots {s t u : State} (h : KeepsSlots s u)
    (e : (Host.Outcome.next u : Host.Outcome State Fault Refusal) = .next t) : KeepsSlots s t := by
  obtain rfl := Host.Outcome.next.inj e
  exact h

/-- An input acts outside reset, and changes its item alone under reset (R136, R146). -/
theorem input_keepsSlots {s u v : State} (reset : KeepsSlots s u) (run : KeepsSlots s v) :
    KeepsSlots s (if s.inReset then u else v) := by
  split
  · exact reset
  · exact run

theorem exec_keepsSlots (c : Instr) {s t : State} (e : exec c s = .next t) : KeepsSlots s t := by
  have request := takeRequest_keepsSlots c s
  have level (i : Interlock) : KeepsSlots s { s with interlock := i } := KeepsSlots.refl s
  have read (b : BayIx) (closed : Bool) : KeepsSlots s (s.setSwitch b closed) := KeepsSlots.refl s
  cases c with
  | requestFrameReceived raw => exact live_keepsSlots (receive_keepsSlots raw s) e
  | frameDiscarded raw => exact live_keepsSlots (receive_keepsSlots raw s) e
  | fill raw => exact live_keepsSlots (receive_keepsSlots raw s) e
  | turn raw => exact live_keepsSlots (receive_keepsSlots raw s) e
  | endFrame raw => exact live_keepsSlots (takeEnd_keepsSlots raw s) e
  | select raw => exact live_keepsSlots (takeSelect_keepsSlots raw s) e
  | selectionComplete => exact live_keepsSlots (completeSelection_keepsSlots s) e
  | slotReplyDelivered => exact live_keepsSlots (slotReplySent_keepsSlots s) e
  | reportSent => exact live_keepsSlots (reportSent_keepsSlots s) e
  | arbitration contenders => exact live_keepsSlots (takeArbitration_keepsSlots contenders s) e
  | reselection => exact live_keepsSlots (reselect_keepsSlots s) e
  | selectAck raw => exact live_keepsSlots (takeSelectAck_keepsSlots raw s) e
  | reselectionTimeout arrival => exact live_keepsSlots (passReselection_keepsSlots arrival s) e
  | turnTimeout arrival => exact live_keepsSlots (passTurn_keepsSlots arrival s) e
  | lineReset receiving => exact live_keepsSlots ((KeepsSlots.refl s).takeLineReset receiving) e
  | lineResetRelease => exact live_keepsSlots (releaseLine_keepsSlots s) e
  | lineIdleTimeout arrival => exact live_keepsSlots (passIdle_keepsSlots arrival s) e
  | replyBurstEndSent => exact live_keepsSlots (burstEndSent_keepsSlots s) e
  | sample bay x => exact live_keepsSlots (takeSample_keepsSlots bay x s) e
  | silenceDeadline bay arrival => exact live_keepsSlots (passSilence_keepsSlots bay arrival s) e
  | settleDeadline bay arrival => exact live_keepsSlots (passSettle_keepsSlots bay arrival s) e
  | holdDeadline bay arrival => exact live_keepsSlots (passHold_keepsSlots bay arrival s) e
  | waitDeadline node arrival => exact live_keepsSlots (passWait_keepsSlots node arrival s) e
  | closeWatchExpiry bay arrival => exact live_keepsSlots (passCloseWatch_keepsSlots bay arrival s) e
  | storeWriteEnd => exact live_keepsSlots (act := endStoreWrite) (.refl s) e
  | switchClosed bay => exact next_keepsSlots (input_keepsSlots (read bay true) (switchCloses_keepsSlots bay s)) e
  | switchOpen bay => exact next_keepsSlots (read bay false) e
  | estopAssert => exact next_keepsSlots (input_keepsSlots (level _) (assertEstop_keepsSlots s)) e
  | estopRelease => exact next_keepsSlots (level _) e
  | gasNotHealthy => exact next_keepsSlots (input_keepsSlots (level _) ((KeepsSlots.refl s).setInterlock _)) e
  | gasHealthy => exact next_keepsSlots (input_keepsSlots (level _) ((KeepsSlots.refl s).setInterlock _)) e
  | resetAssert => exact next_keepsSlots (assertReset_keepsSlots s) e
  | resetRelease =>
    have released : KeepsSlots s { s with inReset := false } := KeepsSlots.refl s
    exact next_keepsSlots (input_keepsSlots (released.trans (startUp_keepsSlots _)) (.refl s)) e
  | powerOn => exact next_keepsSlots (startUp_keepsSlots s) e
  | calibrate n tag bay zeroAt scale =>
    refine live_keepsSlots ?_ e
    split
    · exact take_keepsSlots (ownZeroCapture_keepsSlots s bay scale) n tag _
    · exact request
  | _ => exact live_keepsSlots request e

/-- Settles O58: a slot becomes DEFERRED only where it was empty, and DELIVERABLE only with its entry gone; the line
sends one slot reply at a time, and an address leaves the delivery list with its slot's reply. -/
theorem slotsStaySound : Obligations.SlotsStaySound := by
  intro s t ok e
  unfold step at e
  split at e
  · exact next_keepsSlots (tick_keepsSlots s) e ok
  · next rest _ =>
    have taken : KeepsSlots s { s with pending := rest } := KeepsSlots.refl s
    exact exec_keepsSlots _ e (taken ok)

end Sys2Proof.Machine
end

section
namespace Sys2Proof.Machine

/-! ## The order of the vessel choice (R87) -/

/-- The rank of a bay for a gas: exact class first, then least headroom, then lowest number. -/
def State.rank (s : State) (g : GasClass) (b : BayIx) : Bool ×ₗ ℕ ×ₗ BayIx :=
  toLex (!s.exactClass g b, toLex (((s.bay b).headroom).getD 0, b))

theorem rank_lt_iff {s : State} {g : GasClass} {a b : BayIx} : s.rank g a < s.rank g b ↔
    (s.exactClass g a = true ∧ ¬ s.exactClass g b = true) ∨ ((s.exactClass g a = true ↔ s.exactClass g b = true) ∧
      (((s.bay a).headroom).getD 0 < ((s.bay b).headroom).getD 0 ∨
        (((s.bay a).headroom).getD 0 = ((s.bay b).headroom).getD 0 ∧ a < b))) := by
  simp [State.rank, Prod.Lex.toLex_lt_toLex, Bool.lt_iff]

theorem rank_injective {s : State} {g : GasClass} {a b : BayIx} (same : s.rank g a = s.rank g b) : a = b := by
  simp only [State.rank, toLex_inj, Prod.mk.injEq] at same
  obtain ⟨-, -, number⟩ := same
  exact number

/-- A bay chosen before another has the lower rank. -/
theorem chosenBefore_iff {s : State} {g : GasClass} {a b : BayIx} :
    s.chosenBefore g a b = true ↔ s.rank g a < s.rank g b := by
  rw [rank_lt_iff]
  unfold State.chosenBefore
  cases s.exactClass g a <;> cases s.exactClass g b <;> simp
  all_goals split <;> simp [*]

theorem firstBay_eq_none {s : State} {g : GasClass} {bs : List BayIx} : s.firstBay g bs = none ↔ bs = [] := by
  cases bs with
  | nil => simp [State.firstBay]
  | cons b rest =>
    unfold State.firstBay
    split <;> simp

/-- The first of some bays has the lowest rank of them. -/
theorem firstBay_rank_le {s : State} {g : GasClass} {bs : List BayIx} {b : BayIx} (first : s.firstBay g bs = some b) :
    ∀ a ∈ bs, s.rank g b ≤ s.rank g a := by
  induction bs generalizing b with
  | nil => exact absurd first nofun
  | cons c rest ih =>
    unfold State.firstBay at first
    split at first
    next none =>
      rw [firstBay_eq_none.mp none]
      simp [Option.some.inj first]
    next d found =>
      have least := ih found
      obtain rfl := Option.some.inj first
      intro a ha
      split
      next before =>
        have lower := chosenBefore_iff.mp before
        obtain rfl | ha := List.mem_cons.mp ha
        · exact lower.le
        · exact least a ha
      next not =>
        have lower : s.rank g c ≤ s.rank g d := not_lt.mp (mt chosenBefore_iff.mpr not)
        obtain rfl | ha := List.mem_cons.mp ha
        · exact le_rfl
        · exact lower.trans (least a ha)

/-- The candidates of the vessel choice (R87). -/
theorem candidate_iff {s : State} {g : GasClass} {b : BayIx} : s.candidate g b = true ↔
    (s.bay b).state = .ready ∧ (s.channel b).state = .ok ∧
      (∃ v ∈ (s.bay b).vessel, (v.cls = g ∨ v.cls = .mx) ∧
        s.params.grantReserve ≤ v.capacity * fillDensity v.cls - (s.bay b).net) ∧
      (g = .hc ∨ g = .mx → s.permitOn = true ∧ s.interlock.estop = false) := by
  simp only [State.candidate, Bool.and_eq_true, beq_iff_eq, bayAccepts_iff, gasAllowed_eq, decide_eq_true_eq,
    State.hasReserve, Bay.headroom]
  cases vessel : (s.bay b).vessel with
  | none => simp
  | some v => simp [maxFill_vessel vessel, and_assoc]

/-- Settles O13: the bay found has the lowest rank of the candidates. -/
theorem vesselChoiceIsFirst : Obligations.VesselChoiceIsFirst := by
  intro s g
  dsimp only
  have exact_iff (b : BayIx) : (s.bay b).vessel.map (·.cls) = some g ↔ s.exactClass g b = true := by
    unfold State.exactClass
    cases (s.bay b).vessel <;> simp
  simp only [← candidate_iff, exact_iff]
  have listed (b : BayIx) : b ∈ allBays.filter (s.candidate g) ↔ s.candidate g b = true := by simp [mem_allBays]
  refine ⟨?_, fun b chosen => ⟨(listed b).mp (firstBay_mem chosen), fun a candidate other => ?_⟩⟩
  · refine firstBay_eq_none.trans ?_
    simp only [List.eq_nil_iff_forall_not_mem, listed]
  · have le := firstBay_rank_le chosen a ((listed a).mpr candidate)
    exact rank_lt_iff.mp (lt_of_le_of_ne le fun same => other (rank_injective same).symm)

end Sys2Proof.Machine
end

section
namespace Sys2Proof.Machine

/-! ## Entries that leave without a grant (R92, R94, R121) -/

theorem permitted_feedCancel {n : Node} (role : roleOf n = .station) : permitted .feedCancel (roleOf n) = true := by
  rw [role]
  rfl

/-- The entry of a unit leaves, and no batch is told (R94). -/
theorem endEntry_unit {s : State} {e : WaitEntry} {st : Status} (unit : e.purpose.line? = none) :
    s.endEntry e st = s.removed e st := by
  rw [endEntry_spec]
  cases purpose : e.purpose with
  | unit tag => rfl
  | batch l number => simp [purpose, WaitPurpose.line?] at unit

/-- The entry of a batch leaves, and the batch is stalled (R121). -/
theorem endEntry_line {s : State} {e : WaitEntry} {st : Status} {l : FoamLine} (batch : e.purpose.line? = some l) :
    s.endEntry e st = (s.removed e st).modCurrent l (fun bt => { bt with state := .stalled }) := by
  rw [endEntry_spec]
  cases purpose : e.purpose with
  | unit tag => simp [purpose, WaitPurpose.line?] at batch
  | batch l' number =>
    rw [purpose] at batch
    obtain rfl : l' = l := Option.some.inj batch
    rfl

theorem ownFeedCancel_none {s : State} {n : Node} (none : s.entry n = none) : ownFeedCancel n s = refuse s .noFeed := by
  simp [ownFeedCancel, none]

theorem ownFeedCancel_unit {s : State} {n : Node} {e : WaitEntry} (waiting : s.entry n = some e)
    (unit : e.purpose.line? = none) : ownFeedCancel n s = { state := s.removed e .withdrawn, status := .ok } := by
  simp [ownFeedCancel, waiting, endEntry_unit unit]

/-- No entry, or one whose deadline is ahead: the clock moves alone (R92). -/
theorem passWait_ahead {s : State} {n : Node} {arrival : Nat}
    (ahead : ∀ e ∈ s.entry n, max s.now arrival < e.deadline) : passWait n arrival s = s.advance arrival := by
  unfold passWait
  cases waiting : s.entry n with
  | none => simp [waiting]
  | some e =>
    have later : ¬ e.deadline ≤ max s.now arrival := by simpa using ahead e waiting
    simp [waiting, passed_some, later]

/-- An entry whose deadline has passed leaves with WAIT_EXPIRED, and the alarm is counted (R92). -/
theorem passWait_expired {s : State} {n : Node} {arrival : Nat} {e : WaitEntry} (waiting : s.entry n = some e)
    (passed : e.deadline ≤ max s.now arrival) : passWait n arrival s
      = ((s.advance arrival).endEntry e .waitExpired).alarm .waitExpired (some (nodeAddr n)) := by
  unfold passWait
  simp [waiting, passed_some, passed]

/-- Settles O20: FEED_CANCEL and the wait deadline, each by what the node's entry is. -/
theorem entriesLeave : Obligations.EntriesLeave := by
  intro s n tag arrival run
  have deadline (t : State) (leaves : passWait n arrival s = t) : exec (.waitDeadline n arrival) s = .next t :=
    (live_running _ s run).trans (congrArg _ leaves)
  refine ⟨fun role => ⟨fun none => ?_, fun e waiting unit => ?_⟩,
    fun none => deadline _ (passWait_ahead (by simp [none])), fun e waiting => ⟨fun ahead => ?_, fun passed unit => ?_,
      fun passed l batch => ?_⟩⟩
  · exact live_take run (permitted_feedCancel role) (ownFeedCancel_none none)
  · exact live_take run (permitted_feedCancel role) (ownFeedCancel_unit waiting unit)
  · exact deadline _ (passWait_ahead (by simpa [Option.mem_def.mp waiting] using ahead))
  · exact deadline _ (endEntry_unit (s := s.advance arrival) unit ▸ passWait_expired waiting passed)
  · exact deadline _ (endEntry_line (s := s.advance arrival) batch ▸ passWait_expired waiting passed)

end Sys2Proof.Machine
end

section
namespace Sys2Proof.Machine

/-! ## Feeds ended and entries purged by class (R96, R138, R142) -/

theorem Reaches.widen {P Q : BayIx → Prop} {s t : State} (h : Reaches P s t) (wide : ∀ b, P b → Q b) :
    Reaches Q s t where
  inReset := h.inReset
  interlock := h.interlock
  bay b hb := h.bay b (mt (wide b) hb)
  channel b hb := h.channel b (mt (wide b) hb)
  feed b hb := h.feed b (mt (wide b) hb)
  valve b hb := h.valve b (mt (wide b) hb)
  waits := h.waits
  slots := h.slots

/-- From `s` to `t` the plant changes at bays in `P` alone, and a feed left is one of before or has ended with cause
`c`. -/
structure EndsAt (P : BayIx → Prop) (c : EndCause) (s t : State) : Prop where
  reaches : Reaches P s t
  feeds : ∀ b, ∀ g ∈ t.feed b, g ∈ s.feed b ∨ g.endCause = some c

theorem EndsAt.refl (P : BayIx → Prop) (c : EndCause) (s : State) : EndsAt P c s s := ⟨.refl P s, fun _ _ => .inl⟩

theorem EndsAt.trans {P : BayIx → Prop} {c : EndCause} {s t u : State} (h : EndsAt P c s t) (k : EndsAt P c t u) :
    EndsAt P c s u :=
  ⟨h.reaches.trans k.reaches, fun b g hg => (k.feeds b g hg).elim (h.feeds b g) .inr⟩

/-- A booking by estimate leaves the end cause of the feed (R81). -/
theorem bookByEstimate_endCause {s : State} {b : BayIx} {g : Feed} (held : g ∈ (s.bookByEstimate b).feed b) :
    ∃ f ∈ s.feed b, g.endCause = f.endCause := by
  obtain ⟨-, e⟩ | ⟨f, before, -, e⟩ := bookByEstimate_cases s b <;> rw [e] at held
  · exact ⟨g, held, rfl⟩
  · rw [bookGain_eq_bookTold, State.setFeed_feed] at held
    obtain rfl := Option.some.inj held
    exact ⟨f, before, rfl⟩

/-- A bay that leaves CLOSING has no feed (R30). -/
theorem leaveClosing_feed {s : State} {b : BayIx} {g : Feed} (held : g ∈ (s.leaveClosing b).feed b) : g ∈ s.feed b := by
  obtain e | ⟨-, -, -, e⟩ := leaveClosing_cases s b <;> rw [e] at held
  · exact held
  · have gone : ((s.setFeed b none).enterService b).feed b = none := by
      obtain ⟨-, e⟩ | ⟨-, e⟩ := enterService_cases (s.setFeed b none) b <;> rw [e]
      · exact State.setFeed_feed s b none
      · exact State.setFeed_feed s b none
    rw [gone] at held
    exact absurd held nofun

/-- A feed in FEEDING whose bay is in `P` ends (R74). -/
theorem endFeed_endsAt {P : BayIx → Prop} (s : State) {b : BayIx} (c : EndCause)
    (picked : ∀ f ∈ s.feed b, f.state = .feeding → P b) : EndsAt P c s (s.endFeed b c) := by
  obtain ⟨-, e⟩ | ⟨f, held, feeding, ended⟩ := endFeed_cases s b c
  · rw [e]
    exact .refl P c s
  have here := picked f held feeding
  have reached := endFeed_reaches s b c
  have cause : ∀ g ∈ (s.feedEnded b f c).feed b, g.endCause = some c := by
    rw [(feedEnded_at s b f c).2.1]
    rintro g ⟨⟩
    rfl
  have own : ∀ g ∈ (s.endFeed b c).feed b, g.endCause = some c := by
    intro g held
    obtain ⟨-, -, e⟩ | ⟨-, e⟩ | e := ended <;> rw [e] at held
    · exact cause g held
    · exact cause g held
    · obtain ⟨f', before, same⟩ := bookByEstimate_endCause (leaveClosing_feed held)
      exact same.trans (cause f' before)
  refine ⟨reached.widen fun d hd => hd ▸ here, fun d g hg => ?_⟩
  by_cases same : d = b
  · exact .inr (own g (same ▸ hg))
  · exact .inl (reached.feed d same ▸ hg)

/-- The bays whose feed in FEEDING is of a picked class. -/
def State.feedsOf (s : State) (which : GasClass → Bool) (b : BayIx) : Prop :=
  ∃ f ∈ s.feed b, f.state = .feeding ∧ which f.cls = true

/-- The feeds of some classes are ended: none begins at another bay meanwhile (R138, R142). -/
theorem endFeeds_endsAt (s : State) (which : GasClass → Bool) (c : EndCause) :
    EndsAt (s.feedsOf which) c s (s.endFeeds which c) := by
  have owned (t : State) (n : Node) (h : EndsAt (s.feedsOf which) c s t) :
      EndsAt (s.feedsOf which) c s (t.endOwned which c n) := by
    unfold State.endOwned
    split
    · next b f owned =>
      split
      · next picked =>
        refine h.trans (endFeed_endsAt t c fun g hg feeding => ?_)
        obtain rfl := Option.some.inj ((ownedFeed_eq_some owned).1.symm.trans hg)
        by_contra other
        exact other ⟨f, h.reaches.feed b other ▸ hg, feeding, picked⟩
      · exact h
    · exact h
  rw [endFeeds_eq]
  exact List.foldlRecOn allNodes _ (.refl _ c s) fun t h n _ => owned t n h

/-- From `s` to `t` the picked entries have left with a status, and the other entries, other slots and the alarms of the
Interlock Unit stand. -/
structure Purges (which : WaitEntry → Bool) (st : Status) (s t : State) : Prop where
  waits : t.waits = s.waits.filter (fun e => !which e)
  answered : ∀ e ∈ s.waits, which e = true →
    (t.node e.node).slot = .deliverable { tag := e.tag, kind := e.kind, status := st, body := .none }
  slot : ∀ n, (∀ e ∈ s.waits, which e = true → e.node ≠ n) → (t.node n).slot = (s.node n).slot
  alarms : t.alarms = s.alarms

theorem Purges.refl {which : WaitEntry → Bool} (st : Status) {s : State} (none : ∀ e ∈ s.waits, which e = false) :
    Purges which st s s where
  waits := (List.filter_eq_self.mpr fun e he => by simp [none e he]).symm
  answered e he picked := by simp [none e he] at picked
  slot _ _ := rfl
  alarms := rfl

theorem Purges.congr {p q : WaitEntry → Bool} {st : Status} {s t : State} (h : Purges p st s t)
    (same : ∀ e ∈ s.waits, p e = q e) : Purges q st s t where
  waits := h.waits.trans (List.filter_congr fun e he => by rw [same e he])
  answered e he picked := h.answered e he ((same e he).trans picked)
  slot n other := h.slot n fun e he picked => other e he ((same e he).symm.trans picked)
  alarms := h.alarms

theorem Purges.trans {p q : WaitEntry → Bool} {st : Status} {s t u : State} (nodup : (s.waits.map (·.node)).Nodup)
    (h : Purges p st s t) (k : Purges q st t u) : Purges (fun e => p e || q e) st s u where
  waits := by
    rw [k.waits, h.waits, List.filter_filter]
    exact List.filter_congr fun e _ => by cases p e <;> cases q e <;> rfl
  answered e he picked := by
    by_cases first : p e = true
    · refine (k.slot e.node fun x hx _ same => ?_).trans (h.answered e he first)
      rw [h.waits] at hx
      obtain ⟨waiting, left⟩ := List.mem_filter.mp hx
      obtain rfl := List.inj_on_of_nodup_map nodup waiting he same
      simp [first] at left
    · refine k.answered e ?_ (by simpa [first] using picked)
      rw [h.waits]
      exact List.mem_filter.mpr ⟨he, by simpa using first⟩
  slot n other := by
    refine (k.slot n fun x hx picked => ?_).trans (h.slot n fun x hx picked => other x hx (by simp [picked]))
    rw [h.waits] at hx
    exact other x (List.mem_filter.mp hx).1 (by simp [picked])
  alarms := k.alarms.trans h.alarms

/-- One entry leaves (R96). -/
theorem endEntry_purges {s : State} (nodup : (s.waits.map (·.node)).Nodup) {e : WaitEntry} (waiting : e ∈ s.waits)
    (st : Status) : Purges (fun x => x.node == e.node) st s (s.endEntry e st) := by
  have left : Purges (fun x => x.node == e.node) st s (s.removed e st) := by
    refine ⟨rfl, fun x hx same => ?_, fun n other => ?_, rfl⟩
    · obtain rfl := List.inj_on_of_nodup_map nodup hx waiting (by simpa using same)
      exact congrArg NodeRec.slot (State.setNode_node _ _ _)
    · exact congrArg NodeRec.slot (State.setNode_node_ne _ _ _ n (other e waiting (by simp)).symm)
  rw [endEntry_spec]
  cases e.purpose with
  | unit tag => exact left
  | batch l number => exact ⟨left.waits, left.answered, left.slot, left.alarms⟩

theorem purgeOwned_purges {s : State} (nodup : (s.waits.map (·.node)).Nodup) (which : WaitEntry → Bool) (st : Status)
    (n : Node) : Purges (fun x => which x && x.node == n) st s (s.purgeOwned which st n) := by
  unfold State.purgeOwned
  split
  · next e found =>
    have waiting := List.mem_of_find?_eq_some found
    have alone : ∀ x ∈ s.waits, x.node = n → x = e := fun x hx same =>
      List.inj_on_of_nodup_map nodup hx waiting (same.trans (entry_node found).symm)
    split
    · next picked =>
      refine (endEntry_purges nodup waiting st).congr fun x hx => ?_
      rw [entry_node found]
      by_cases same : x.node = n
      · simp [alone x hx same, picked]
      · simp [same]
    · next unpicked =>
      refine .refl st fun x hx => ?_
      by_cases same : x.node = n
      · simp [alone x hx same, unpicked]
      · simp [same]
  · next none =>
    refine .refl st fun x hx => ?_
    have other := List.find?_eq_none.mp none x hx
    simp [Bool.eq_false_iff.mpr other]

/-- Every picked entry leaves, and the others stand (R96). -/
theorem purge_purges {s : State} (nodup : (s.waits.map (·.node)).Nodup) (which : WaitEntry → Bool) (st : Status) :
    Purges which st s (s.purge which st) := by
  have owned (ns : List Node) : ∀ t : State, (t.waits.map (·.node)).Nodup →
      Purges (fun e => which e && ns.contains e.node) st t (ns.foldl (State.purgeOwned which st) t) := by
    induction ns with
    | nil => exact fun t _ => .refl st fun e _ => by simp
    | cons n rest ih =>
      intro t nodup
      have first := purgeOwned_purges nodup which st n
      have fewer : ((t.purgeOwned which st n).waits.map (·.node)).Nodup := by
        rw [first.waits]
        exact nodup.sublist (List.filter_sublist.map _)
      refine (first.trans nodup (ih _ fewer)).congr fun e _ => ?_
      rw [List.contains_cons, Bool.and_or_distrib_left]
  rw [purge_eq]
  exact (owned allNodes s nodup).congr fun e _ => by simp [mem_allNodes]

end Sys2Proof.Machine
end

section
namespace Sys2Proof.Machine

/-! ## The E-stop and permit drops (R96, R138, R142) -/

/-- What stands and what has ended where the feeds and the entries of some classes have been ended: feeds with cause
`c`, entries with status `st`. -/
structure Cleared (which : GasClass → Bool) (c : EndCause) (st : Status) (s t : State) : Prop where
  interlock : t.interlock = s.interlock
  valve : ∀ b, t.valve b = ((t.bay b).state == .feeding)
  fed : ∀ b, (t.bay b).state = .feeding → ∃ f ∈ t.feed b, f.endCause = none ∧ which f.cls = false
  stands : ∀ b, ¬ s.feedsOf which b → t.bay b = s.bay b ∧ t.feed b = s.feed b ∧ t.valve b = s.valve b
  ended : ∀ b, ∀ f ∈ s.feed b, f.state = .feeding → which f.cls = true → ∀ g ∈ t.feed b, g.endCause = some c
  waits : t.waits = s.waits.filter (fun e => !which e.cls)
  answered : ∀ e ∈ s.waits, which e.cls = true →
    (t.node e.node).slot = .deliverable { tag := e.tag, kind := e.kind, status := st, body := .none }
  alarms : ∀ k, k = .estopOn ∨ k = .permitDropped → t.alarms.recs[alarmIx k] = s.alarms.recs[alarmIx k]

/-- A FEEDING bay has a feed in FEEDING that has no end cause (R25, R63). -/
theorem Sound.feeding_feed {G : GasClass → Prop} {s : State} (h : Sound G s) {b : BayIx}
    (feeding : (s.bay b).state = .feeding) : ∃ f ∈ s.feed b, f.endCause = none ∧ G f.cls := by
  obtain ⟨⟨none, -⟩, -⟩ := h.bays b
  obtain ⟨f, held⟩ := Option.ne_none_iff_exists'.mp fun free => (none free).1 feeding
  obtain ⟨phased, ⟨state, -⟩ | ⟨-, closing⟩⟩ := h.feed_phased held
  · obtain ⟨-, -, unended, -⟩ | ⟨closed, -⟩ := phased
    · exact ⟨f, held, unended, h.feedGas b f held state⟩
    · exact absurd (state.symm.trans closed) nofun
  · exact absurd (feeding.symm.trans closing) nofun

/-- The feeds of some classes are ended, then their entries purged (R138, R142). -/
theorem Sound.clears {G : GasClass → Prop} {s : State} (h : Sound G s) (which : GasClass → Bool) (c : EndCause)
    (st : Status) : Cleared which c st s ((s.endFeeds which c).purge (fun e => which e.cls) st) := by
  have sound := h.cleared which c st
  obtain ⟨ending, fed⟩ := h.endFeeds which c
  obtain ⟨reaches, feeds⟩ := endFeeds_endsAt s which c
  have released := (Releases.refl s).endFeeds which c
  have entries := purge_purges ending.nodup (fun e => which e.cls) st
  have plant := (ending.purge (fun e => which e.cls) st).2.1
  generalize (s.endFeeds which c).purge (fun e => which e.cls) st = t at *
  generalize s.endFeeds which c = u at *
  refine ⟨plant.interlock.trans reaches.interlock, sound.valve, fun b feeding => ?_, fun b other => ?_,
    fun b f held feeding picked g left => ?_, released.waits ▸ entries.waits,
    fun e waiting => entries.answered e (released.waits ▸ waiting), fun k hk => entries.alarms ▸ released.alarms k hk⟩
  · obtain ⟨f, held, unended, -, unpicked⟩ := sound.feeding_feed feeding
    exact ⟨f, held, unended, unpicked⟩
  · rw [plant.bay b id, plant.feed b id, plant.valve b id]
    exact ⟨reaches.bay b other, reaches.feed b other, reaches.valve b other⟩
  · rw [plant.feed b id] at left
    obtain before | cause := feeds b g left
    · obtain rfl := Option.some.inj (held.symm.trans before)
      simp [fed b f left feeding] at picked
    · exact cause

/-- An alarm of the Interlock Unit is counted once, after what has been cleared. -/
theorem Cleared.counted {which : GasClass → Bool} {c : EndCause} {st : Status} {s t : State}
    (h : Cleared which c st s t) {k : AlarmKind} (own : k = .estopOn ∨ k = .permitDropped) :
    (t.alarm k none).alarms.recs[alarmIx k]
      = { count := min 255 ((s.alarms.recs[alarmIx k]).count + 1), subject := none, value := 0 } := by
  refine (count_recs t.alarms k none 0 k).trans ((if_pos rfl).trans ?_)
  rw [h.alarms k own]

/-- The assertion of the E-stop clears every class (R142). -/
theorem assertEstop_clears {s : State} (sound : Sound (GasFree s) s) (released : s.interlock.estop = false) :
    ∃ u, Cleared (fun _ => true) .estop .estop { s with interlock := { s.interlock with estop := true } } u ∧
      assertEstop s = u.alarm .estopOn none := by
  have written : Sound (GasFree s) { s with interlock := { s.interlock with estop := true } } :=
    ⟨sound.running, sound.bays, sound.owners, sound.nodup, sound.slots, sound.waitGas, sound.feedGas⟩
  exact ⟨_, written.clears (fun _ => true) .estop .estop, if_neg (by simp [released])⟩

/-- A permit drop clears the flammable classes (R138). -/
theorem setInterlock_clears {s : State} (sound : Sound (GasFree s) s) (i : Interlock) (before : s.permitOn = true)
    (off : (i.flag && i.healthy) = false) :
    ∃ u, Cleared flammable .interlock .permitOff { s with interlock := i } u ∧
      s.setInterlock i = u.alarm .permitDropped none := by
  have written : Sound (GasFree s) { s with interlock := i } :=
    ⟨sound.running, sound.bays, sound.owners, sound.nodup, sound.slots, sound.waitGas, sound.feedGas⟩
  have drop : (s.permitOn && !State.permitOn { s with interlock := i }) = true := by
    simp [before, show State.permitOn { s with interlock := i } = false from off]
  exact ⟨_, written.clears flammable .interlock .permitOff, if_pos drop⟩

/-- Settles O42: every class is cleared, and ESTOP_ON counted. -/
theorem estopEndsEverything : Obligations.EstopEndsEverything := by
  intro s run slots feeds
  have sound := sound_of_feedsOk run slots feeds
  have acts : exec .estopAssert s = .next (assertEstop s) := congrArg _ (if_neg (by simp [run]))
  refine ⟨fun asserted => acts.trans (congrArg _ (if_pos asserted)), fun released => ?_⟩
  obtain ⟨u, cleared, leaves⟩ := assertEstop_clears sound released
  have idle (b : BayIx) : (u.bay b).state ≠ .feeding := fun feeding => by
    obtain ⟨f, -, -, unpicked⟩ := cleared.fed b feeding
    exact absurd unpicked nofun
  refine ⟨_, acts.trans (congrArg _ leaves), cleared.interlock, cleared.waits.trans (by simp),
    fun b => ⟨(cleared.valve b).trans (by simpa using idle b), idle b⟩,
    fun b f held feeding => cleared.ended b f held feeding rfl, fun b other => ?_,
    fun e waiting => cleared.answered e waiting rfl, cleared.counted (.inl rfl)⟩
  have still : ¬ s.feedsOf (fun _ => true) b := fun ⟨f, held, feeding, _⟩ => by
    obtain ⟨-, ⟨-, bay⟩ | ⟨closed, -⟩⟩ := sound.feed_phased held
    · exact other bay
    · exact absurd (feeding.symm.trans closed) nofun
  obtain ⟨bay, feed, -⟩ := cleared.stands b still
  exact ⟨bay, feed⟩

theorem interlockBody_eq {s : State} {i : Interlock} (items : s.interlock = i) :
    s.interlockBody = .interlock (i.flag && i.healthy) i.flag i.healthy i.estop :=
  items ▸ rfl

/-- Settles O45: the flammable classes are cleared, and PERMIT_DROPPED counted, whichever item goes off. -/
theorem permitDropEndsFlammable : Obligations.PermitDropEndsFlammable := by
  intro s n tag run slots feeds flag healthy dropped
  have sound := sound_of_feedsOk run slots feeds
  have drops (i : Interlock) (off : (i.flag && i.healthy) = false) (estop : i.estop = s.interlock.estop) :
      dropped (s.setInterlock i) ∧ (s.setInterlock i).interlock = i := by
    obtain ⟨u, cleared, leaves⟩ := setInterlock_clears sound i (by simp [State.permitOn, flag, healthy]) off
    rw [leaves]
    have items : u.interlock = i := cleared.interlock
    refine ⟨⟨?_, (congrArg _ items).trans estop, cleared.waits, fun b f held => ⟨fun burns feeding => ?_,
      fun other => ?_⟩, cleared.answered, cleared.counted (.inr rfl)⟩, items⟩
    · simpa only [State.permitOn, State.alarm_interlock, items] using off
    · have idle : (u.bay b).state ≠ .feeding := fun still => by
        obtain ⟨g, left, unended, -⟩ := cleared.fed b still
        simp [cleared.ended b f held feeding burns g left] at unended
      exact ⟨(cleared.valve b).trans (by simpa using idle), idle, cleared.ended b f held feeding burns⟩
    · have still : ¬ s.feedsOf flammable b := fun ⟨g, held', feeding, burns⟩ => by
        obtain rfl := Option.some.inj (held.symm.trans held')
        simp [feeding, burns] at other
      obtain ⟨bay, feed, valve⟩ := cleared.stands b still
      exact ⟨feed, bay, valve⟩
  have acts : exec .gasNotHealthy s = .next (s.setInterlock { s.interlock with healthy := false }) :=
    congrArg _ (if_neg (by simp [run]))
  refine ⟨⟨_, acts, (drops { s.interlock with healthy := false } (by simp) rfl).1⟩, fun role => ?_⟩
  obtain ⟨effect, items⟩ := drops { s.interlock with flag := false } (by simp) rfl
  refine ⟨_, live_take run (by rw [role]; rfl) (if_neg (by decide)), effect, ?_⟩
  have body := (interlockBody_eq items).trans (by simp [healthy] : _ = Body.interlock false false true s.interlock.estop)
  exact congrArg (fun b => (s.replied n tag .permit .ok b).lastReply) body

end Sys2Proof.Machine
end

section
namespace Sys2Proof.Machine

/-! ## Who gets the extra gram of a split (R108, R109) -/

/-- The share of the cabinet at place `i`: its base share, and 1 g more where its rank is below the residue (R108). -/
theorem splitShares_getD (total : Nat) (weights : List Nat) {i : Nat} (hi : i < weights.length) :
    (splitShares total weights).getD i 0 = total * weights.getD i 0 / weights.sum +
      if splitRank (weights.map (splitRemainder total weights.sum)) i
        < total - (weights.map (fun w => total * w / weights.sum)).sum then 1 else 0 := by
  simp [splitShares, hi]

/-- What the base shares leave of the whole is the sum of the remainders (R109). -/
theorem base_shares_add_remainders (total sumW : Nat) (weights : List Nat) :
    sumW * (weights.map (fun w => total * w / sumW)).sum + (weights.map (splitRemainder total sumW)).sum
      = total * weights.sum := by
  induction weights with
  | nil => simp
  | cons w rest ih =>
    have whole : sumW * (total * w / sumW) + splitRemainder total sumW w = total * w := Nat.div_add_mod ..
    simp only [List.map_cons, List.sum_cons, Nat.mul_add]
    omega

/-- The residue times the sum of weights is the sum of the remainders (R109). -/
theorem mul_residue_eq_sum_remainders (total : Nat) (weights : List Nat) :
    weights.sum * (total - (weights.map (fun w => total * w / weights.sum)).sum)
      = (weights.map (splitRemainder total weights.sum)).sum := by
  have whole := base_shares_add_remainders total weights.sum weights
  rw [Nat.mul_sub, Nat.mul_comm _ total]
  omega

/-- A cabinet of remainder 0 comes after every cabinet of a remainder above 0, so its rank bounds their sum. -/
theorem sum_le_splitRank_mul (rems : List Nat) {bound i : Nat} (le_bound : ∀ r ∈ rems, r ≤ bound)
    (zero : rems.getD i 0 = 0) : rems.sum ≤ splitRank rems i * bound := by
  have before (j : Nat) (hj : j < rems.length) :
      rems[j] ≤ if RanksBefore rems j i then bound else 0 := by
    by_cases pos : 0 < rems[j]
    · have ranks : RanksBefore rems j i := .inl (by rw [zero]; simpa [hj] using pos)
      simpa [ranks] using le_bound _ (List.getElem_mem hj)
    · omega
  calc rems.sum = ∑ j : Fin rems.length, rems[j] := (Fin.sum_univ_getElem rems).symm
    _ ≤ ∑ j : Fin rems.length, if RanksBefore rems j i then bound else 0 :=
        Finset.sum_le_sum fun j _ => before j j.isLt
    _ = ∑ j ∈ Finset.range rems.length, if RanksBefore rems j i then bound else 0 :=
        Fin.sum_univ_eq_sum_range (fun j => if RanksBefore rems j i then bound else 0) _
    _ = splitRank rems i * bound := by rw [splitRank_eq_card, ← Finset.sum_filter, Finset.sum_const, smul_eq_mul]

/-- A cabinet whose proportion is whole ranks behind the residue: it gets no extra gram (R109). -/
theorem residue_le_splitRank_of_whole (total : Nat) (weights : List Nat) {i : Nat} (positive : 0 < weights.sum)
    (hi : i < weights.length) (whole : total * weights.getD i 0 % weights.sum = 0) :
    total - (weights.map (fun w => total * w / weights.sum)).sum
      ≤ splitRank (weights.map (splitRemainder total weights.sum)) i := by
  have below : ∀ r ∈ weights.map (splitRemainder total weights.sum), r ≤ weights.sum := by
    intro r hr
    obtain ⟨w, -, rfl⟩ := List.mem_map.mp hr
    exact (Nat.mod_lt _ positive).le
  have zero : (weights.map (splitRemainder total weights.sum)).getD i 0 = 0 := by
    simpa [splitRemainder, hi] using whole
  refine Nat.le_of_mul_le_mul_left ?_ positive
  calc weights.sum * _ = (weights.map (splitRemainder total weights.sum)).sum :=
        mul_residue_eq_sum_remainders total weights
    _ ≤ _ := sum_le_splitRank_mul _ below zero
    _ = _ := Nat.mul_comm ..

/-- Settles O26: the extra grams are as many as the residue, and none goes to a cabinet of remainder 0. -/
theorem splitAddsUp : Obligations.SplitAddsUp := by
  refine ⟨fun total weights nonempty weigh => ?_, complete_addsUp⟩
  have positive : 0 < weights.sum := List.sum_pos _ weigh nonempty
  refine ⟨splitShares_length .., splitShares_sum _ _ positive, fun i hi => ?_⟩
  simp only [splitShares_getD total weights hi]
  refine ⟨?_, fun whole => ?_⟩
  · split
    · exact .inr rfl
    · exact .inl rfl
  · simp [residue_le_splitRank_of_whole total weights positive hi whole]

end Sys2Proof.Machine
end

section
namespace Sys2Proof.Machine

/-! ## Settings (R134, R171, R178) -/

/-- A value is clamped exactly where it lies outside its range. -/
theorem eq_clamp_iff {lo hi : Nat} (ordered : lo ≤ hi) (v : Nat) : v = clamp lo hi v ↔ lo ≤ v ∧ v ≤ hi := by
  unfold clamp
  omega

/-- The answer to a value that was applied, in the form of the statements (R134, R171, R178). -/
theorem appliedAnswer_clamp {lo hi : Nat} (ordered : lo ≤ hi) (s : State) (v : Nat) :
    appliedAnswer s v (clamp lo hi v) =
      { state := s, status := if lo ≤ v ∧ v ≤ hi then .ok else .clamped, body := .applied (max lo (min hi v)) } :=
  congrArg (fun st => Taken.mk s st (.applied (clamp lo hi v))) (if_congr (eq_clamp_iff ordered v) rfl rfl)

theorem ownReplyLimit_applied (n : Node) (value : Nat) (s : State) : ownReplyLimit n value s =
    { state := s.setNode n { s.node n with replyLimit := max 48 (min 512 value) }
      status := if 48 ≤ value ∧ value ≤ 512 then .ok else .clamped
      body := .applied (max 48 (min 512 value)) } :=
  appliedAnswer_clamp (by decide) _ value

/-- The two option bits as remainders (R163). -/
theorem ownLinkOptions_bits (n : Node) (value : Nat) (s : State) : ownLinkOptions n value s =
    { state := s.setNode n { s.node n with
        burstHalt := decide (value % 2 = 1), fixedLength := decide (value / 2 % 2 = 1) }
      status := .ok } := by
  unfold ownLinkOptions
  rw [Nat.testBit_zero, Nat.testBit_succ, Nat.testBit_zero]

theorem ownSetExpect_badArgument {category cls : Nat} (bad : ¬(1 ≤ category ∧ category ≤ 5 ∧ 1 ≤ cls ∧ cls ≤ 4))
    (value : Nat) (s : State) : ownSetExpect category cls value s = refuse s .badArgument := by
  unfold ownSetExpect
  split
  · next cat g named classed =>
    obtain ⟨low, high⟩ := (categoryOfCode_isSome category).mp (named ▸ rfl)
    exact absurd ⟨low, high, (classOfCode_isSome cls).mp (classed ▸ rfl)⟩ bad
  · rfl

theorem ownSetExpect_applied {category cls : Nat} {cat : Category} {g : GasClass}
    (named : categoryOfCode category = some cat) (classed : classOfCode cls = some g) (value : Nat) (s : State) :
    ownSetExpect category cls value s =
      { state := { s with batches := { s.batches with
          expect := s.batches.expect.set (expectIx cat g) (max 1 (min 9999 value)) } }
        status := if 1 ≤ value ∧ value ≤ 9999 then .ok else .clamped
        body := .applied (max 1 (min 9999 value)) } := by
  simp only [ownSetExpect, named, classed]
  exact appliedAnswer_clamp (by decide) _ value

/-- The parameters have the ids 1 to 9 (R178). -/
theorem paramRange_eq_none {id : Nat} (unknown : id = 0 ∨ 9 < id) : paramRange id = none := by
  unfold paramRange
  split <;> grind

theorem paramRange_ordered {id lo hi : Nat} (range : paramRange id = some (lo, hi)) : lo ≤ hi := by
  unfold paramRange at range
  split at range <;> simp at range <;> omega

/-- A parameter other than the grant reserve is set and nothing more (R178). -/
theorem ownSetParam_applied {id lo hi : Nat} (range : paramRange id = some (lo, hi)) (other : id ≠ 4) (value : Nat)
    (s : State) : ownSetParam id value s =
      { state := { s with params := s.params.setId id (max lo (min hi value)) }
        status := if lo ≤ value ∧ value ≤ hi then .ok else .clamped
        body := .applied (max lo (min hi value)) } := by
  simp only [ownSetParam, range, State.applyParam, if_neg other]
  exact appliedAnswer_clamp (paramRange_ordered range) _ value

/-- Settles O27, request by request: the clamped value is written where it belongs and answered. -/
theorem settingsApplied : Obligations.SettingsApplied := by
  intro s n tag value category cls id run
  refine ⟨live_take run rfl (ownReplyLimit_applied n value s), live_take run rfl (ownLinkOptions_bits n value s),
    fun role => ⟨fun bad => ?_, fun cat named g classed => ?_, fun unknown => ?_, fun other r range => ?_⟩⟩
  · exact live_take run (by rw [role]; rfl) (ownSetExpect_badArgument bad value s)
  · exact live_take run (by rw [role]; rfl) (ownSetExpect_applied named classed value s)
  · refine live_take (r := refuse s .badArgument) run (by rw [role]; rfl) ?_
    simp only [ownSetParam, paramRange_eq_none unknown]
  · exact live_take run (by rw [role]; rfl) (ownSetParam_applied range other value s)

end Sys2Proof.Machine
end

section
namespace Sys2Proof.Machine

/-! ## FOAM_OPEN and FOAM_RESUME (R116, R119, R120, R123) -/

/-- The Wait List's part of a request looks at no batch: it finds the same bay before and after a line is written. -/
theorem chooseVessel_setLine (s : State) (l : FoamLine) (r : LineRec) (g : GasClass) :
    (s.setLine l r).chooseVessel g = s.chooseVessel g := by
  have first (bs : List BayIx) : (s.setLine l r).firstBay g bs = s.firstBay g bs := by
    induction bs with
    | nil => rfl
    | cons b rest ih =>
      simp only [State.firstBay, ih]
      rfl
  exact first _

section

variable {s : State} {l : FoamLine} {bt : Batch} (current : (s.line l).current = some bt) (n : Node) (tag : Nat)
  (k : ReqKind)

theorem askForBatch_estop (stop : s.interlock.estop = true) : askForBatch s n tag k l bt = refuse s .estop := by
  simp only [askForBatch, askFeed_estop stop]
  rfl

theorem askForBatch_permitOff (clear : s.interlock.estop = false) (burns : bt.cls = .hc ∨ bt.cls = .mx)
    (off : s.permitOn = false) : askForBatch s n tag k l bt = refuse s .permitOff := by
  simp only [askForBatch, askFeed_permitOff clear burns off]
  rfl

variable (clear : s.interlock.estop = false) (permit : bt.cls = .hc ∨ bt.cls = .mx → s.permitOn = true)
include clear permit

theorem askForBatch_noVessel (unchosen : s.chooseVessel bt.cls = none) (idle : s.mayWait bt.cls = false) :
    askForBatch s n tag k l bt = refuse s .noVessel := by
  simp only [askForBatch, askFeed_allowed clear permit, decideFeed_noVessel unchosen idle]
  rfl

include current

/-- A request that waits takes its batch to WAITING_FEED (R120, R123). -/
theorem askForBatch_waits (unchosen : s.chooseVessel bt.cls = none) (busy : s.mayWait bt.cls = true) :
    askForBatch s n tag k l bt =
      { state := (s.setLine l { s.line l with current := some { bt with state := .waitingFeed } }).waiting n tag k bt.cls
          (.batch l bt.number)
        status := .deferred } := by
  simp only [askForBatch, askFeed_allowed clear permit, decideFeed_waits unchosen busy, if_true]
  exact congrArg (Taken.mk · .deferred .none)
    (modCurrent_some (s := s.waiting n tag k bt.cls (.batch l bt.number)) current _)

/-- A grant opens the next segment of the batch (R91, R116, R121). -/
theorem askForBatch_granted {b : BayIx} {v : Vessel} (chosen : s.chooseVessel bt.cls = some b)
    (vessel : (s.bay b).vessel = some v) : askForBatch s n tag k l bt =
      { state := (s.setLine l { s.line l with current := some (bt.openSegment b) }).granted b n
          (.batch l bt.number (bt.segments.length + 1)) bt.cls
        status := .ok
        body := .grant b v.id (v.capacity * fillDensity v.cls - (s.bay b).net) } := by
  have purpose : s.feedPurpose (.batch l bt.number) = .batch l bt.number (bt.segments.length + 1) := by
    simp only [State.feedPurpose, current, Option.map_some, Option.getD_some]
  have granted : s.grant b n (.batch l bt.number) bt.cls = (s.setLine l { s.line l with
      current := some (bt.openSegment b) }).granted b n (.batch l bt.number (bt.segments.length + 1)) bt.cls := by
    rw [grant_spec]
    dsimp only
    rw [purpose]
    exact modCurrent_some (s := s.granted b n _ bt.cls) current _
  simp only [askForBatch, askFeed_allowed clear permit, decideFeed_granted chosen vessel, granted, reduceCtorEq, if_false]

end

/-! ### FOAM_OPEN (R114, R119, R120) -/

theorem permitted_foamOpen (l : FoamLine) : permitted .foamOpen (roleOf (nodeOfLine l)) = true := by
  rw [roleOf_nodeOfLine]
  rfl

/-- The line with the batch that a FOAM_OPEN creates in its current slot, in STALLED (R114, R120). -/
def State.batchCreated (s : State) (l : FoamLine) (g : GasClass) : State :=
  let number := nextBatchNumber (s.line l).lastNumber
  s.setLine l { s.line l with current := some (newBatch l number g), lastNumber := number }

theorem batchCreated_current (s : State) (l : FoamLine) (g : GasClass) :
    ((s.batchCreated l g).line l).current = some (newBatch l (nextBatchNumber (s.line l).lastNumber) g) := by
  rw [State.batchCreated, State.setLine_line]

theorem ownFoamOpen_badArgument (s : State) {cls : Nat} (bad : cls = 0 ∨ 4 < cls) (n : Node) (tag : Nat) :
    ownFoamOpen n tag cls s = refuse s .badArgument := by
  have unnamed : classOfCode cls = none := by
    rw [← Option.not_isSome_iff_eq_none, classOfCode_isSome]
    omega
  simp only [ownFoamOpen, unnamed]

section

variable {s : State} {l : FoamLine} {cls : Nat} {g : GasClass} (named : classOfCode cls = some g)
include named

theorem ownFoamOpen_wrongState (held : (s.line l).current ≠ none) (tag : Nat) :
    ownFoamOpen (nodeOfLine l) tag cls s = refuse s .wrongState := by
  simp only [ownFoamOpen, named, lineOfNode_nodeOfLine, if_pos (Option.isSome_iff_ne_none.mpr held)]

variable (vacant : (s.line l).current = none)
include vacant

theorem ownFoamOpen_feedActive (active : s.ownedBay (nodeOfLine l) ≠ none) (tag : Nat) :
    ownFoamOpen (nodeOfLine l) tag cls s = refuse s .feedActive := by
  simp only [ownFoamOpen, named, lineOfNode_nodeOfLine, vacant, Option.isSome_none, Bool.false_eq_true, if_false,
    if_pos (Option.isSome_iff_ne_none.mpr active)]

variable (free : s.ownedBay (nodeOfLine l) = none)
include free

theorem ownFoamOpen_slotBusy (busy : (s.node (nodeOfLine l)).slot ≠ .empty) (tag : Nat) :
    ownFoamOpen (nodeOfLine l) tag cls s = refuse s .slotBusy := by
  simp only [ownFoamOpen, named, lineOfNode_nodeOfLine, vacant, free, Option.isSome_none, Bool.false_eq_true, if_false,
    if_pos busy]

/-- A free line with an empty slot and no current batch creates one and asks for its feed (R119, R120). -/
theorem ownFoamOpen_asks (empty : (s.node (nodeOfLine l)).slot = .empty) (tag : Nat) :
    ownFoamOpen (nodeOfLine l) tag cls s = askForBatch (s.batchCreated l g) (nodeOfLine l) tag .foamOpen l
      (newBatch l (nextBatchNumber (s.line l).lastNumber) g) := by
  simp only [ownFoamOpen, named, lineOfNode_nodeOfLine, vacant, free, Option.isSome_none, Bool.false_eq_true, if_false,
    empty, ne_eq, not_true]
  rfl

end

/-- Settles O21: the refusals in the order of the checks, and then the batch created with what the Wait List decides. -/
theorem foamOpenCreatesBatch : Obligations.FoamOpenCreatesBatch := by
  intro s l tag cls run
  have answered {r : Taken} (answer : ownFoamOpen (nodeOfLine l) tag cls s = r) :=
    live_take (tag := tag) run (permitted_foamOpen l) answer
  refine ⟨fun bad => answered (ownFoamOpen_badArgument s bad _ tag), fun g named => ⟨?_, ?_, ?_, ?_⟩⟩
  · exact fun held => answered (ownFoamOpen_wrongState named held tag)
  · exact fun vacant active => answered (ownFoamOpen_feedActive named vacant active tag)
  · exact fun vacant free busy => answered (ownFoamOpen_slotBusy named vacant free busy tag)
  intro vacant free empty
  have asks := ownFoamOpen_asks named vacant free empty tag
  have current := batchCreated_current s l g
  refine ⟨fun stop => ?_, fun clear burns off => ?_, fun clear permit => ⟨fun unchosen idle => ?_,
    fun unchosen busy => ?_, fun b chosen v vessel => ?_⟩⟩
  · exact answered (asks.trans (askForBatch_estop _ tag _ stop))
  · exact answered (asks.trans (askForBatch_permitOff _ tag _ clear burns off))
  · exact answered (asks.trans (askForBatch_noVessel _ tag _ clear permit
      ((chooseVessel_setLine s l _ g).trans unchosen) idle))
  · refine (answered (asks.trans (askForBatch_waits current _ tag _ clear permit
      ((chooseVessel_setLine s l _ g).trans unchosen) busy))).trans ?_
    simp only [State.batchCreated, State.setLine_setLine, State.setLine_line]
    rfl
  · refine (answered (asks.trans (askForBatch_granted current _ tag _ clear permit
      ((chooseVessel_setLine s l _ g).trans chosen) vessel))).trans ?_
    simp only [State.batchCreated, State.setLine_setLine, State.setLine_line]
    rfl

/-! ### FOAM_RESUME (R116, R123) -/

theorem permitted_foamResume (l : FoamLine) : permitted .foamResume (roleOf (nodeOfLine l)) = true := by
  rw [roleOf_nodeOfLine]
  rfl

theorem ownFoamResume_none {s : State} {l : FoamLine} (none : (s.line l).current = none) (tag : Nat) :
    ownFoamResume (nodeOfLine l) tag s = refuse s .wrongState := by
  simp only [ownFoamResume, lineOfNode_nodeOfLine, none]

section

variable {s : State} {l : FoamLine} {bt : Batch} (current : (s.line l).current = some bt)
include current

theorem ownFoamResume_wrongState (other : bt.state ≠ .stalled) (tag : Nat) :
    ownFoamResume (nodeOfLine l) tag s = refuse s .wrongState := by
  simp only [ownFoamResume, lineOfNode_nodeOfLine, current, if_pos other]

variable (stalled : bt.state = .stalled)
include stalled

theorem ownFoamResume_segmentLimit (full : 4 ≤ bt.segments.length) (tag : Nat) :
    ownFoamResume (nodeOfLine l) tag s = refuse s .segmentLimit := by
  simp only [ownFoamResume, lineOfNode_nodeOfLine, current, stalled, ne_eq, not_true, if_false, ge_iff_le, if_pos full]

variable (room : bt.segments.length < 4)
include room

theorem ownFoamResume_feedActive (active : s.ownedBay (nodeOfLine l) ≠ none) (tag : Nat) :
    ownFoamResume (nodeOfLine l) tag s = refuse s .feedActive := by
  simp only [ownFoamResume, lineOfNode_nodeOfLine, current, stalled, ne_eq, not_true, if_false, ge_iff_le,
    if_neg (Nat.not_le.mpr room), if_pos (Option.isSome_iff_ne_none.mpr active)]

variable (free : s.ownedBay (nodeOfLine l) = none)
include free

theorem ownFoamResume_slotBusy (busy : (s.node (nodeOfLine l)).slot ≠ .empty) (tag : Nat) :
    ownFoamResume (nodeOfLine l) tag s = refuse s .slotBusy := by
  simp only [ownFoamResume, lineOfNode_nodeOfLine, current, stalled, ne_eq, not_true, if_false, ge_iff_le,
    if_neg (Nat.not_le.mpr room), free, Option.isSome_none, Bool.false_eq_true]
  exact if_pos busy

/-- A STALLED batch with a segment left, on a free line with an empty slot, asks again (R123). -/
theorem ownFoamResume_asks (empty : (s.node (nodeOfLine l)).slot = .empty) (tag : Nat) :
    ownFoamResume (nodeOfLine l) tag s = askForBatch s (nodeOfLine l) tag .foamResume l bt := by
  simp only [ownFoamResume, lineOfNode_nodeOfLine, current, stalled, ne_eq, not_true, if_false, ge_iff_le,
    if_neg (Nat.not_le.mpr room), free, Option.isSome_none, Bool.false_eq_true, empty]

end

/-- Settles O22: the refusals in the order of the checks, and then what the Wait List decides on a further segment. -/
theorem foamResumeAsksAgain : Obligations.FoamResumeAsksAgain := by
  intro s l tag run
  have answered {r : Taken} (answer : ownFoamResume (nodeOfLine l) tag s = r) :=
    live_take (tag := tag) run (permitted_foamResume l) answer
  refine ⟨fun none => answered (ownFoamResume_none none tag), fun bt current =>
    ⟨fun other => answered (ownFoamResume_wrongState current other tag),
      fun stalled full => answered (ownFoamResume_segmentLimit current stalled full tag), fun stalled room => ?_⟩⟩
  refine ⟨fun active => answered (ownFoamResume_feedActive current stalled room active tag),
    fun free busy => answered (ownFoamResume_slotBusy current stalled room free busy tag), fun free empty => ?_⟩
  have asks := ownFoamResume_asks current stalled room free empty tag
  refine ⟨fun stop => ?_, fun clear burns off => ?_, fun clear permit => ⟨fun unchosen idle => ?_,
    fun unchosen busy => ?_, fun b chosen v vessel => ?_⟩⟩
  · exact answered (asks.trans (askForBatch_estop _ tag _ stop))
  · exact answered (asks.trans (askForBatch_permitOff _ tag _ clear burns off))
  · exact answered (asks.trans (askForBatch_noVessel _ tag _ clear permit unchosen idle))
  · exact answered (asks.trans (askForBatch_waits current _ tag _ clear permit unchosen busy))
  · exact answered (asks.trans (askForBatch_granted current _ tag _ clear permit chosen vessel))

/-! ## FOAM_CLOSE that must wait (R126, R127, R128) -/

theorem ownFoamClose_none {s : State} {l : FoamLine} (none : (s.line l).current = none) (tag : Nat) :
    ownFoamClose (nodeOfLine l) tag s = refuse s .wrongState := by
  simp only [ownFoamClose, lineOfNode_nodeOfLine, none]

section

variable {s : State} {l : FoamLine} {bt : Batch} (current : (s.line l).current = some bt)
include current

theorem ownFoamClose_closing (closing : bt.state = .closing) (tag : Nat) :
    ownFoamClose (nodeOfLine l) tag s = refuse s .wrongState := by
  simp only [ownFoamClose, lineOfNode_nodeOfLine, current, closing]

/-- A batch with a segment whose gain is not in waits for it, its line's slot held for the reply (R128). -/
theorem closeStalled_unsettled (unsettled : ∃ g ∈ bt.segments, g.settled = false) (n : Node) (tag : Nat) :
    closeStalled n tag l bt s =
      if (s.node n).slot = .empty then
        { state := (s.setLine l { s.line l with current := some { bt with state := .closing } }).setSlot n
            (.deferred tag .foamClose)
          status := .deferred }
      else refuse s .slotBusy := by
  have waits : bt.allSettled = false := by simpa [Batch.allSettled] using unsettled
  simp only [closeStalled, waits, Bool.false_eq_true, if_false, modCurrent_some current]
  rfl

/-- With the channel OK the feed of an OPEN batch ends CLOSED, and the reply waits for its FEED_END reading (R127). -/
theorem closeOpen_weighed {b : BayIx} {f : Feed} (held : s.feed b = some f) (feeding : f.state = .feeding)
    (ok : (s.channel b).state = .ok) (n : Node) (tag : Nat) : closeOpen n tag l b s =
      if (s.node n).slot = .empty then
        { state := (((s.setLine l { s.line l with current := some { bt with state := .closing } }).endsWeighed b f
            .closed).purposeEnds f.purpose .closed).setSlot n (.deferred tag .foamClose)
          status := .deferred }
      else refuse s .slotBusy := by
  have ended := endFeed_ok (s := s.setLine l { s.line l with current := some { bt with state := .closing } }) .closed held
    feeding ok
  simp only [closeOpen, modCurrent_some current, ended, State.estimateMode, ok, bne_self_eq_false, Bool.false_eq_true,
    if_false]
  rfl

end

/-- Settles O25: by the state of the batch, and then by the slot. -/
theorem foamCloseDefers : Obligations.FoamCloseDefers := by
  intro s l tag run
  have answered {r : Taken} (answer : ownFoamClose (nodeOfLine l) tag s = r) :=
    live_take (tag := tag) run (permitted_foamClose l) answer
  refine ⟨fun none => answered (ownFoamClose_none none tag), fun bt current =>
    ⟨fun closing => answered (ownFoamClose_closing current closing tag), fun stalled unsettled => ?_,
      fun opened b owned f held feeding ok k batch => ?_⟩⟩
  · have waits := (ownFoamClose_stalled current stalled tag).trans
      (closeStalled_unsettled current unsettled (nodeOfLine l) tag)
    exact ⟨fun busy => answered (waits.trans (if_neg busy)), fun empty => answered (waits.trans (if_pos empty))⟩
  · have running : s.runningFeed (nodeOfLine l) = some (b, f) := (runningFeed_owned owned held).trans (if_pos feeding)
    have waits := (ownFoamClose_running current opened running tag).trans
      (closeOpen_weighed current held feeding ok (nodeOfLine l) tag)
    rw [batch] at waits
    exact ⟨fun busy => answered (waits.trans (if_neg busy)), fun empty => answered (waits.trans (if_pos empty))⟩

end Sys2Proof.Machine
end

section
namespace Sys2Proof.Machine

/-! ## Batches in phase with feeds and entries (R118)

Line by line: the feeds in FEEDING for a batch of the line are the feed of its OPEN batch, and the entries for it are
the entry of its WAITING_FEED batch. -/

/-- The feed is in FEEDING for the batch of a number on a line. -/
def Feed.feeds (f : Feed) (l : FoamLine) (number : Nat) : Prop := f.state = .feeding ∧ ∃ k, f.purpose = .batch l number k

/-- Some bay feeds for the batch of a number on a line. -/
def State.fedFor (s : State) (l : FoamLine) (number : Nat) : Prop := ∃ b, ∃ f ∈ s.feed b, f.feeds l number

/-- Some entry waits for the batch of a number on a line. -/
def State.waitedFor (s : State) (l : FoamLine) (number : Nat) : Prop := ∃ e ∈ s.waits, e.purpose = .batch l number

/-- Feeds and entries are for the line of their node alone. -/
structure LinesOwn (s : State) : Prop where
  feeds : ∀ b, ∀ f ∈ s.feed b, f.purpose.line? = lineOfNode f.owner
  waits : ∀ e ∈ s.waits, e.purpose.line? = lineOfNode e.node

/-- A line feeds exactly for its OPEN batch, and waits exactly for its WAITING_FEED batch. -/
structure LineInPhase (s : State) (l : FoamLine) : Prop where
  fed : ∀ number, s.fedFor l number ↔ s.batchIs l .opened number = true
  waited : ∀ number, s.waitedFor l number ↔ s.batchIs l .waitingFeed number = true

/-- Every line is in phase. -/
structure Phased (s : State) : Prop where
  own : LinesOwn s
  lines : ∀ l, LineInPhase s l

theorem batchIs_iff {s : State} {l : FoamLine} {st : BatchState} {number : Nat} : s.batchIs l st number = true ↔
    ∃ bt ∈ (s.line l).current, bt.state = st ∧ bt.number = number := by
  unfold State.batchIs
  cases (s.line l).current <;> simp

theorem isFeeding_iff {s : State} {n : Node} : s.isFeeding n = true ↔
    ∃ b, ∃ f ∈ s.feed b, f.state = .feeding ∧ f.owner = n := by
  simp [State.isFeeding, List.any_eq_true, mem_allBays, Option.any_eq_true]

theorem lineOfNode_eq_some {n : Node} {l : FoamLine} : lineOfNode n = some l ↔ n = nodeOfLine l := by
  revert n l
  decide

theorem feedLine_eq_some {p : FeedPurpose} {l : FoamLine} : p.line? = some l ↔ ∃ number k, p = .batch l number k := by
  cases p <;> simp [FeedPurpose.line?]

theorem waitLine_eq_some {w : WaitPurpose} {l : FoamLine} : w.line? = some l ↔ ∃ number, w = .batch l number := by
  cases w <;> simp [WaitPurpose.line?]

theorem Feed.inPhase_iff {s : State} {f : Feed} : f.inPhase s = true ↔
    ∀ l number, f.feeds l number → s.batchIs l .opened number = true := by
  unfold Feed.inPhase Feed.feeds
  cases f.purpose with
  | unit tag => simp
  | batch l number k => by_cases feeding : f.state = .feeding <;> simp [feeding]

theorem WaitEntry.inPhase_iff {s : State} {e : WaitEntry} : e.inPhase s = true ↔
    ∀ l number, e.purpose = .batch l number → s.batchIs l .waitingFeed number = true := by
  unfold WaitEntry.inPhase
  cases e.purpose with
  | unit tag => simp
  | batch l number => simp

theorem entry_isSome {s : State} {n : Node} : (s.entry n).isSome = true ↔ ∃ e ∈ s.waits, e.node = n := by
  simp [State.entry, List.find?_isSome]

/-- The statement's agreement of batches, feeds and entries, line by line. -/
theorem phaseOk_iff (s : State) : PhaseOk s ↔ Phased s := by
  constructor
  · rintro ⟨feeds, waits, current⟩
    refine ⟨⟨fun b f hf => (feeds b f hf).1, fun e he => (waits e he).1⟩, fun l => ⟨fun number => ?_, fun number => ?_⟩⟩
    · refine ⟨fun ⟨b, f, hf, fed⟩ => Feed.inPhase_iff.mp (feeds b f hf).2 l number fed, fun opened => ?_⟩
      obtain ⟨bt, held, state, rfl⟩ := batchIs_iff.mp opened
      obtain ⟨b, f, hf, feeding, owner⟩ := isFeeding_iff.mp ((current l bt held).1 state)
      obtain ⟨line, inPhase⟩ := feeds b f hf
      obtain ⟨number, k, purpose⟩ := feedLine_eq_some.mp (line.trans (lineOfNode_eq_some.mpr owner))
      obtain ⟨bt', held', -, same⟩ := batchIs_iff.mp (Feed.inPhase_iff.mp inPhase l number ⟨feeding, k, purpose⟩)
      obtain rfl := Option.mem_unique held held'
      exact ⟨b, f, hf, feeding, k, same ▸ purpose⟩
    · refine ⟨fun ⟨e, he, purpose⟩ => WaitEntry.inPhase_iff.mp (waits e he).2 l number purpose, fun waiting => ?_⟩
      obtain ⟨bt, held, state, rfl⟩ := batchIs_iff.mp waiting
      obtain ⟨e, he, node⟩ := entry_isSome.mp ((current l bt held).2 state)
      obtain ⟨line, inPhase⟩ := waits e he
      obtain ⟨number, purpose⟩ := waitLine_eq_some.mp (line.trans (lineOfNode_eq_some.mpr node))
      obtain ⟨bt', held', -, same⟩ := batchIs_iff.mp (WaitEntry.inPhase_iff.mp inPhase l number purpose)
      obtain rfl := Option.mem_unique held held'
      exact ⟨e, he, same ▸ purpose⟩
  · rintro ⟨⟨feedsOwn, waitsOwn⟩, lines⟩
    refine ⟨fun b f hf => ⟨feedsOwn b f hf, Feed.inPhase_iff.mpr fun l number fed => ?_⟩,
      fun e he => ⟨waitsOwn e he, WaitEntry.inPhase_iff.mpr fun l number purpose => ?_⟩,
      fun l bt held => ⟨fun opened => ?_, fun waiting => ?_⟩⟩
    · exact ((lines l).fed number).mp ⟨b, f, hf, fed⟩
    · exact ((lines l).waited number).mp ⟨e, he, purpose⟩
    · obtain ⟨b, f, hf, feeding, k, purpose⟩ := ((lines l).fed bt.number).mpr (batchIs_iff.mpr ⟨bt, held, opened, rfl⟩)
      refine isFeeding_iff.mpr ⟨b, f, hf, feeding, lineOfNode_eq_some.mp ((feedsOwn b f hf).symm.trans ?_)⟩
      rw [purpose, FeedPurpose.line?]
    · obtain ⟨e, he, purpose⟩ := ((lines l).waited bt.number).mpr (batchIs_iff.mpr ⟨bt, held, waiting, rfl⟩)
      refine entry_isSome.mpr ⟨e, he, lineOfNode_eq_some.mp ((waitsOwn e he).symm.trans ?_)⟩
      rw [purpose, WaitPurpose.line?]

/-! ### Changes of one feed, one line, one entry -/

/-- Feeds, entries and batches: all that the phases of the lines are read from. -/
def State.phaseView (s : State) : Vector (Option Feed) 8 × List WaitEntry × Vector LineRec 2 :=
  (s.feeds, s.waits, s.batches.lines)

theorem Phased.view {s t : State} (h : Phased s) (same : t.phaseView = s.phaseView) : Phased t := by
  obtain ⟨feeds, waits, lines⟩ : t.feeds = s.feeds ∧ t.waits = s.waits ∧ t.batches.lines = s.batches.lines := by
    simpa only [State.phaseView, Prod.mk.injEq] using same
  obtain ⟨⟨feedsOwn, waitsOwn⟩, inPhase⟩ := h
  refine ⟨⟨?_, by rwa [waits]⟩, fun l => ⟨fun number => ?_, fun number => ?_⟩⟩
  · simpa only [State.feed, feeds] using feedsOwn
  · simpa only [State.fedFor, State.feed, feeds, State.batchIs, State.line, lines] using (inPhase l).fed number
  · simpa only [State.waitedFor, waits, State.batchIs, State.line, lines] using (inPhase l).waited number

/-- The line's current batch neither feeds nor waits. -/
def LineRec.resting (r : LineRec) : Prop := ∀ bt ∈ r.current, bt.state ≠ .opened ∧ bt.state ≠ .waitingFeed

/-- No bay feeds for a batch of the line, and no entry waits for one. -/
def State.lineFree (s : State) (l : FoamLine) : Prop := ∀ number, ¬s.fedFor l number ∧ ¬s.waitedFor l number

section

variable {s : State} {l m : FoamLine}

theorem fedFor_setFeed (b : BayIx) (x : Option Feed) (number : Nat) : (s.setFeed b x).fedFor l number ↔
    (∃ f ∈ x, f.feeds l number) ∨ ∃ c, c ≠ b ∧ ∃ f ∈ s.feed c, f.feeds l number := by
  constructor
  · rintro ⟨c, f, hf, fed⟩
    by_cases same : c = b
    · subst same
      exact .inl ⟨f, State.setFeed_feed s c x ▸ hf, fed⟩
    · exact .inr ⟨c, same, f, State.setFeed_feed_ne s b x c same ▸ hf, fed⟩
  · rintro (⟨f, hf, fed⟩ | ⟨c, other, f, hf, fed⟩)
    · exact ⟨b, f, (State.setFeed_feed s b x).symm ▸ hf, fed⟩
    · exact ⟨c, f, (State.setFeed_feed_ne s b x c other).symm ▸ hf, fed⟩

theorem fedFor_setFeed_same {b : BayIx} {x : Option Feed} {number : Nat}
    (same : (∃ f ∈ x, f.feeds l number) ↔ ∃ f ∈ s.feed b, f.feeds l number) :
    (s.setFeed b x).fedFor l number ↔ s.fedFor l number := by
  rw [fedFor_setFeed, same, ← fedFor_setFeed, State.setFeed_same]

/-- A feed place is written with what feeds for the same batches of the line. -/
theorem LineInPhase.setFeed (h : LineInPhase s l) {b : BayIx} {x : Option Feed}
    (same : ∀ number, (∃ f ∈ x, f.feeds l number) ↔ ∃ f ∈ s.feed b, f.feeds l number) :
    LineInPhase (s.setFeed b x) l :=
  ⟨fun number => (fedFor_setFeed_same (same number)).trans (h.fed number), h.waited⟩

theorem LinesOwn.setFeed (h : LinesOwn s) {b : BayIx} {x : Option Feed}
    (own : ∀ f ∈ x, f.purpose.line? = lineOfNode f.owner) : LinesOwn (s.setFeed b x) := by
  refine ⟨fun c f hf => ?_, h.waits⟩
  by_cases same : c = b
  · subst same
    exact own f (State.setFeed_feed s c x ▸ hf)
  · exact h.feeds c f (State.setFeed_feed_ne s b x c same ▸ hf)

/-- A feed changes in what is no matter of owner, purpose and state. -/
theorem Phased.updateFeed (h : Phased s) {b : BayIx} {f f' : Feed} (held : s.feed b = some f)
    (owner : f'.owner = f.owner) (purpose : f'.purpose = f.purpose) (state : f'.state = f.state) :
    Phased (s.setFeed b (some f')) := by
  refine ⟨h.own.setFeed fun g hg => ?_, fun l => (h.lines l).setFeed fun number => ?_⟩
  · obtain rfl := Option.mem_some_iff.mp hg
    rw [owner, purpose]
    exact h.own.feeds b f held
  · simp [held, Feed.feeds, purpose, state]

/-- A bay that does not feed is freed. -/
theorem Phased.unfeed (h : Phased s) {b : BayIx} (still : ∀ f ∈ s.feed b, f.state ≠ .feeding) :
    Phased (s.setFeed b none) := by
  refine ⟨h.own.setFeed nofun, fun l => (h.lines l).setFeed fun number => ?_⟩
  exact ⟨nofun, fun ⟨f, hf, feeding, _⟩ => absurd feeding (still f hf)⟩

theorem LineInPhase.setLine_ne (h : LineInPhase s m) (other : m ≠ l) (r : LineRec) : LineInPhase (s.setLine l r) m := by
  have same (st : BatchState) (number : Nat) : (s.setLine l r).batchIs m st number = s.batchIs m st number := by
    simp only [State.batchIs, State.setLine_line_ne s l r m other]
  exact ⟨fun number => (h.fed number).trans (by rw [same]), fun number => (h.waited number).trans (by rw [same])⟩

theorem LineRec.resting.batchIs (rest : (s.line l).resting) (number : Nat) :
    s.batchIs l .opened number = false ∧ s.batchIs l .waitingFeed number = false := by
  refine ⟨Bool.eq_false_iff.mpr fun opened => ?_, Bool.eq_false_iff.mpr fun waiting => ?_⟩
  · obtain ⟨bt, held, state, -⟩ := batchIs_iff.mp opened
    exact (rest bt held).1 state
  · obtain ⟨bt, held, state, -⟩ := batchIs_iff.mp waiting
    exact (rest bt held).2 state

/-- A line whose batch rests is in phase exactly where nothing feeds or waits for it. -/
theorem lineInPhase_resting (rest : (s.line l).resting) : LineInPhase s l ↔ s.lineFree l := by
  constructor
  · refine fun h number => ⟨fun fed => ?_, fun waited => ?_⟩
    · simpa [(rest.batchIs number).1] using (h.fed number).mp fed
    · simpa [(rest.batchIs number).2] using (h.waited number).mp waited
  · refine fun free => ⟨fun number => ?_, fun number => ?_⟩
    · simp [(free number).1, (rest.batchIs number).1]
    · simp [(free number).2, (rest.batchIs number).2]

theorem LinesOwn.setLine (h : LinesOwn s) (l : FoamLine) (r : LineRec) : LinesOwn (s.setLine l r) := ⟨h.feeds, h.waits⟩

/-- A resting batch is replaced by a resting one, or by none. -/
theorem Phased.setResting (h : Phased s) {r : LineRec} (before : (s.line l).resting) (after : r.resting) :
    Phased (s.setLine l r) := by
  refine ⟨h.own.setLine l r, fun m => ?_⟩
  by_cases same : m = l
  · subst same
    exact (lineInPhase_resting (by rwa [State.setLine_line])).mpr ((lineInPhase_resting before).mp (h.lines m))
  · exact (h.lines m).setLine_ne same r

theorem resting_map {r : LineRec} {f : Batch → Batch} (rests : ∀ bt, (f bt).state ≠ .opened ∧ (f bt).state ≠ .waitingFeed) :
    ({ r with current := r.current.map f } : LineRec).resting := by
  intro bt held
  obtain ⟨bt', -, rfl⟩ := Option.map_eq_some_iff.mp held
  exact rests bt'

/-- A current batch is rewritten but for state and number. -/
theorem Phased.modCurrent (h : Phased s) {f : Batch → Batch} (state : ∀ bt, (f bt).state = bt.state)
    (number : ∀ bt, (f bt).number = bt.number) : Phased (s.modCurrent l f) := by
  refine ⟨h.own.setLine l _, fun m => ?_⟩
  by_cases same : m = l
  · subst same
    have kept (st : BatchState) (k : Nat) : (s.modCurrent m f).batchIs m st k = s.batchIs m st k := by
      simp only [State.batchIs, modCurrent_spec, State.setLine_line]
      cases (s.line m).current with
      | none => rfl
      | some bt => simp only [Option.map_some, state, number]
    exact ⟨fun k => ((h.lines m).fed k).trans (by rw [kept]), fun k => ((h.lines m).waited k).trans (by rw [kept])⟩
  · exact (h.lines m).setLine_ne same _

/-- Nothing is left waiting for the line of a node whose entries leave; other lines wait as before. -/
theorem waitedFor_dropEntry (own : LinesOwn s) (n : Node) (number : Nat) : (s.dropEntry n).waitedFor l number ↔
    s.waitedFor l number ∧ lineOfNode n ≠ some l := by
  have node {e : WaitEntry} (he : e ∈ s.waits) (purpose : e.purpose = .batch l number) : e.node = nodeOfLine l :=
    lineOfNode_eq_some.mp ((own.waits e he).symm.trans (waitLine_eq_some.mpr ⟨number, purpose⟩))
  constructor
  · rintro ⟨e, he, purpose⟩
    obtain ⟨he, other⟩ := List.mem_filter.mp he
    refine ⟨⟨e, he, purpose⟩, fun line => ?_⟩
    rw [node he purpose, lineOfNode_eq_some.mp line] at other
    simp at other
  · rintro ⟨⟨e, he, purpose⟩, other⟩
    refine ⟨e, List.mem_filter.mpr ⟨he, bne_iff_ne.mpr fun same => ?_⟩, purpose⟩
    exact other (lineOfNode_eq_some.mpr (same ▸ node he purpose))

theorem LinesOwn.dropEntry (h : LinesOwn s) (n : Node) : LinesOwn (s.dropEntry n) :=
  ⟨h.feeds, fun e he => h.waits e (List.mem_filter.mp he).1⟩

theorem LineInPhase.dropEntry (h : LineInPhase s l) (own : LinesOwn s) {n : Node} (other : lineOfNode n ≠ some l) :
    LineInPhase (s.dropEntry n) l := by
  refine ⟨h.fed, fun number => ?_⟩
  rw [waitedFor_dropEntry own, and_iff_left other]
  exact h.waited number

/-- A line waits for one batch at a time, and does not feed meanwhile. -/
theorem LineInPhase.unfed (h : LineInPhase s l) {k : Nat} (waited : s.waitedFor l k) (number : Nat) :
    ¬s.fedFor l number := by
  intro fed
  obtain ⟨bt, held, waiting, -⟩ := batchIs_iff.mp ((h.waited k).mp waited)
  obtain ⟨bt', held', opened, -⟩ := batchIs_iff.mp ((h.fed number).mp fed)
  obtain rfl := Option.mem_unique held held'
  rw [waiting] at opened
  exact absurd opened nofun

end

end Sys2Proof.Machine
end

section
namespace Sys2Proof.Machine

/-! ### Bookings and completions (R59, R80, R81, R130) -/

/-- The slots of nodes, the delivery list, units and alarms are no matter of phase. -/
theorem releaseDeferred_view (s : State) (n : Node) (k : ReqKind) (b : Body) :
    (s.releaseDeferred n k b).phaseView = s.phaseView := by
  obtain ⟨tag, -, e⟩ | ⟨-, e⟩ := releaseDeferred_cases s n k b <;> rw [e]
  rfl

section

variable {s : State} (h : Phased s)
include h

/-- A line whose batch neither feeds nor waits completes it (R130). -/
theorem Phased.completeBatch {l : FoamLine} (rest : (s.line l).resting) : Phased (s.completeBatch l) := by
  cases current : (s.line l).current with
  | none => simpa only [State.completeBatch, current] using h
  | some bt =>
    rw [completeBatch_eq_batchDone s l bt current]
    refine Phased.view ?_ (releaseDeferred_view _ _ _ _)
    have done := h.setResting (r := { s.line l with current := none, previous := some (bt.done s.params) }) rest nofun
    unfold State.batchDone
    dsimp only
    split
    · exact done.view rfl
    split
    · exact done.view rfl
    · exact done.view rfl

theorem Phased.bookToRecord (p : FeedPurpose) (g : GainResult) : Phased (s.bookToRecord p g) := by
  cases p with
  | unit tag => exact h.view rfl
  | batch l number k =>
    have booked : Phased (s.modCurrent l (·.bookSegment k g)) := h.modCurrent (fun _ => rfl) fun _ => rfl
    unfold State.bookToRecord State.bookToBatch
    dsimp only
    split
    · exact h
    next bt current =>
    split
    · split
      · next last =>
        refine booked.completeBatch fun bt' held => ?_
        rw [modCurrent_some current, State.setLine_line] at held
        obtain rfl := Option.mem_some_iff.mp held
        obtain ⟨closing, -⟩ := last
        simp [Batch.bookSegment, closing]
      · exact booked
    · exact h

theorem Phased.bookTold (f : Feed) (g : GainResult) : Phased (s.bookTold f g) := by
  have told : Phased ((s.bookToRecord f.purpose g).gainTold f.owner g.gain g.estimated) :=
    (h.bookToRecord f.purpose g).view rfl
  unfold State.bookTold State.tellOwner
  split
  · exact told.view (releaseDeferred_view _ _ _ _)
  · exact told

theorem Phased.bookGain {b : BayIx} {f f' : Feed} (g : GainResult) (held : s.feed b = some f)
    (owner : f'.owner = f.owner) (purpose : f'.purpose = f.purpose) (state : f'.state = f.state) :
    Phased (s.bookGain b f' g) := by
  rw [bookGain_eq_bookTold]
  exact (h.bookTold f' g).updateFeed (((bookTold_reaches s f' g).feed b id).trans held) owner purpose state

theorem Phased.bookByEstimate (b : BayIx) : Phased (s.bookByEstimate b) := by
  obtain ⟨-, e⟩ | ⟨f, held, -, e⟩ := bookByEstimate_cases s b <;> rw [e]
  · exact h
  · have figured (r : Bay) : Phased (s.setBay b r) := h.view rfl
    exact (figured _).bookGain _ held rfl rfl rfl

omit h in
theorem enterService_view (s : State) (b : BayIx) : (s.enterService b).phaseView = s.phaseView := by
  obtain ⟨-, e⟩ | ⟨-, e⟩ := enterService_cases s b <;> rw [e] <;> rfl

theorem Phased.leaveClosing {G : GasClass → Prop} (sound : Sound G s) (b : BayIx) : Phased (s.leaveClosing b) := by
  obtain e | ⟨-, closing, -, e⟩ := leaveClosing_cases s b <;> rw [e]
  · exact h
  · refine (h.unfeed fun f held => ?_).view (enterService_view _ b)
    rw [sound.feed_closing held closing]
    exact nofun

/-! ### Grants and entries (R67, R89 to R96, R121) -/

end

section

variable {s : State} {b : BayIx} {n : Node}

/-- A grant for the line's batch, with nothing feeding or waiting for the line, opens it; other lines stand (R67, R91,
R121). -/
theorem Phased.grant_batch (own : LinesOwn s) {l : FoamLine} {bt : Batch} (current : (s.line l).current = some bt)
    (node : lineOfNode n = some l) (still : ∀ f ∈ s.feed b, f.state ≠ .feeding) (free : s.lineFree l)
    (others : ∀ m, m ≠ l → LineInPhase s m) (g : GasClass) : Phased (s.grant b n (.batch l bt.number) g) := by
  have purpose (number : Nat) : (s.newFeed b n (s.feedPurpose (.batch l number)) g).purpose.line? = some l := rfl
  generalize fresh : s.newFeed b n (s.feedPurpose (.batch l bt.number)) g = f at purpose
  have feeds (m : FoamLine) (number : Nat) : f.feeds m number ↔ m = l ∧ number = bt.number := by
    subst fresh
    simp [Feed.feeds, State.newFeed, State.feedPurpose, eq_comm]
  have unfed (m : FoamLine) (number : Nat) : ¬∃ f ∈ s.feed b, f.feeds m number :=
    fun ⟨f, held, feeding, _⟩ => still f held feeding
  have granted : Phased ((s.setFeed b (some f)).setLine l { s.line l with
      current := some (bt.openSegment b) }) := by
    refine ⟨(own.setFeed fun f' held => ?_).setLine l _, fun m => ?_⟩
    · obtain rfl := Option.mem_some_iff.mp held
      subst fresh
      exact node.symm
    by_cases same : m = l
    · subst same
      refine ⟨fun number => ?_, fun number => ?_⟩
      · refine (fedFor_setFeed b (some f) number).trans ?_
        rw [batchIs_iff, State.setLine_line]
        have elsewhere : ¬∃ c, c ≠ b ∧ ∃ f ∈ s.feed c, f.feeds m number :=
          fun ⟨c, _, f, held, fed⟩ => (free number).1 ⟨c, f, held, fed⟩
        rw [or_iff_left elsewhere]
        simp [feeds, Batch.openSegment, eq_comm]
      · rw [batchIs_iff, State.setLine_line]
        refine iff_of_false (free number).2 ?_
        simp [Batch.openSegment]
    · refine ((others m same).setFeed fun number => ?_).setLine_ne same _
      rw [iff_false_right (unfed m number)]
      simp [feeds, same]
  subst fresh
  have opened := congrArg State.phaseView
    (modCurrent_some (s := s.createFeed b n (s.feedPurpose (.batch l bt.number)) g) current (·.openSegment b))
  exact granted.view (opened.trans rfl)

/-- A grant to a station reaches no line (R67). -/
theorem Phased.grant_unit (h : Phased s) (node : lineOfNode n = none) (still : ∀ f ∈ s.feed b, f.state ≠ .feeding)
    (tag : Nat) (g : GasClass) : Phased (s.grant b n (.unit tag) g) := by
  have fed : Phased (s.setFeed b (some (s.newFeed b n (.unit tag) g))) := by
    refine ⟨h.own.setFeed fun f held => ?_, fun l => (h.lines l).setFeed fun number => ?_⟩
    · obtain rfl := Option.mem_some_iff.mp held
      exact node.symm
    · refine ⟨fun ⟨f, held, _, k, purpose⟩ => ?_, fun ⟨f, held, feeding, _⟩ => absurd feeding (still f held)⟩
      obtain rfl := Option.mem_some_iff.mp held
      exact absurd purpose nofun
  exact fed.view rfl

/-- An entry that leaves takes its line's waiting with it. -/
theorem lineFree_dropEntry (h : Phased s) {e : WaitEntry} (waiting : e ∈ s.waits) {l : FoamLine} {number : Nat}
    (purpose : e.purpose = .batch l number) : (s.dropEntry e.node).lineFree l := by
  have node : lineOfNode e.node = some l := by
    rw [← h.own.waits e waiting, purpose, WaitPurpose.line?]
  exact fun k => ⟨(h.lines l).unfed ⟨e, waiting, purpose⟩ k, fun waited => ((waitedFor_dropEntry h.own _ k).mp waited).2 node⟩

/-- The lines other than that of a leaving entry wait as before. -/
theorem others_dropEntry (h : Phased s) {e : WaitEntry} (waiting : e ∈ s.waits) {m : FoamLine}
    (other : e.purpose.line? ≠ some m) : LineInPhase (s.dropEntry e.node) m :=
  (h.lines m).dropEntry h.own (by rwa [← h.own.waits e waiting])

/-- A bay that does not feed serves the oldest entry it can (R90, R91). -/
theorem Phased.scan (h : Phased s) (still : ∀ f ∈ s.feed b, f.state ≠ .feeding) : Phased (s.scan b) := by
  obtain ⟨-, e⟩ | ⟨x, found, e⟩ := scan_cases s b <;> rw [e]
  · exact h
  have waiting := List.mem_of_find?_eq_some found
  have line := h.own.waits x waiting
  refine Phased.view (s := (s.dropEntry x.node).grant b x.node x.purpose x.cls) ?_ rfl
  have own := h.own.dropEntry x.node
  have others {m : FoamLine} := others_dropEntry h waiting (m := m)
  cases purpose : x.purpose with
  | unit tag =>
    rw [purpose] at line others
    exact Phased.grant_unit ⟨own, fun m => others nofun⟩ line.symm still tag _
  | batch l number =>
    have free := lineFree_dropEntry h waiting purpose
    obtain ⟨bt, current, -, rfl⟩ := batchIs_iff.mp (((h.lines l).waited number).mp ⟨x, waiting, purpose⟩)
    rw [purpose] at line others
    exact Phased.grant_batch own current line.symm still free
      (fun m other => others fun same => other (Option.some.inj same).symm) _

/-- An entry leaves without a grant, and its batch stalls (R92, R94, R96, R121). -/
theorem Phased.endEntry (h : Phased s) {e : WaitEntry} (waiting : e ∈ s.waits) (st : Status) :
    Phased (s.endEntry e st) := by
  have own := h.own.dropEntry e.node
  have others {m : FoamLine} := others_dropEntry h waiting (m := m)
  rw [endEntry_spec]
  cases purpose : e.purpose with
  | unit tag =>
    rw [purpose] at others
    exact (Phased.mk own fun m => others nofun).view rfl
  | batch l number =>
    have free := lineFree_dropEntry h waiting purpose
    rw [purpose] at others
    have stalled : Phased ((s.dropEntry e.node).modCurrent l (fun bt => { bt with state := .stalled })) := by
      refine ⟨own.setLine l _, fun m => ?_⟩
      by_cases same : m = l
      · subst same
        refine (lineInPhase_resting ?_).mpr free
        rw [modCurrent_spec, State.setLine_line]
        exact resting_map fun _ => ⟨nofun, nofun⟩
      · exact (others fun line => same (Option.some.inj line).symm).setLine_ne same _
    exact stalled.view rfl

theorem waitedFor_joinWait (tag : Nat) (k : ReqKind) (g : GasClass) (w : WaitPurpose) (l : FoamLine) (number : Nat) :
    (s.joinWait n tag k g w).waitedFor l number ↔ s.waitedFor l number ∨ w = .batch l number := by
  have waits : (s.joinWait n tag k g w).waits = s.waits ++ [
      { node := n, tag := tag, kind := k, cls := g, purpose := w, deadline := s.now + 1000 * s.params.waitLimit }] := rfl
  simp [State.waitedFor, waits, or_and_right, exists_or]

theorem LinesOwn.joinWait (own : LinesOwn s) (tag : Nat) (k : ReqKind) (g : GasClass) {w : WaitPurpose}
    (node : w.line? = lineOfNode n) : LinesOwn (s.joinWait n tag k g w) := by
  refine ⟨own.feeds, fun e he => ?_⟩
  obtain old | new := List.mem_append.mp he
  · exact own.waits e old
  · rw [List.mem_singleton.mp new]
    exact node

/-- A station joins the Wait List (R89). -/
theorem Phased.joinWait_unit (h : Phased s) (node : lineOfNode n = none) (tag unit : Nat) (k : ReqKind) (g : GasClass) :
    Phased (s.joinWait n tag k g (.unit unit)) := by
  refine ⟨h.own.joinWait tag k g node.symm, fun l => ⟨(h.lines l).fed, fun number => ?_⟩⟩
  rw [waitedFor_joinWait, or_iff_left nofun]
  exact (h.lines l).waited number

/-- A line joins the Wait List for its resting batch, which goes to WAITING_FEED (R89, R120, R123). -/
theorem Phased.joinWait_batch (h : Phased s) {l : FoamLine} {bt : Batch} (current : (s.line l).current = some bt)
    (rest : (s.line l).resting) (node : lineOfNode n = some l) (tag : Nat) (k : ReqKind) (g : GasClass) :
    Phased ((s.joinWait n tag k g (.batch l bt.number)).modCurrent l (fun b => { b with state := .waitingFeed })) := by
  have free := (lineInPhase_resting rest).mp (h.lines l)
  refine ⟨LinesOwn.setLine (h.own.joinWait tag k g (w := .batch l bt.number) node.symm) l _, fun m => ?_⟩
  have joined (number : Nat) := waitedFor_joinWait (s := s) (n := n) tag k g (.batch l bt.number) m number
  by_cases same : m = l
  · subst same
    rw [modCurrent_some (s := s.joinWait n tag k g (.batch m bt.number)) current]
    refine ⟨fun number => ?_, fun number => ?_⟩
    · rw [batchIs_iff, State.setLine_line]
      refine iff_of_false (free number).1 ?_
      simp
    · refine (joined number).trans ?_
      rw [batchIs_iff, State.setLine_line]
      simp [(free number).2]
  · refine LineInPhase.setLine_ne (s := s.joinWait n tag k g (.batch l bt.number))
      ⟨(h.lines m).fed, fun number => (joined number).trans ?_⟩ same _
    rw [or_iff_left fun other => same (by injection other with line; exact line.symm)]
    exact (h.lines m).waited number

end

/-- READY with the scan, or FULL, of a bay that does not feed (R26, R30). -/
theorem Phased.readyOrFull {s : State} (h : Phased s) {b : BayIx} (still : ∀ f ∈ s.feed b, f.state ≠ .feeding) :
    Phased (s.readyOrFull b) := by
  obtain ⟨-, e⟩ | ⟨-, e⟩ := readyOrFull_cases s b <;> rw [e]
  · exact Phased.scan (h.view rfl) still
  · exact h.view rfl

end Sys2Proof.Machine
end

section
namespace Sys2Proof.Machine

/-! ### Ends of feeds (R74, R122, R138, R142) -/

theorem feedEnded_waits (s : State) (b : BayIx) (f : Feed) (c : EndCause) : (s.feedEnded b f c).waits = s.waits := by
  have told (t : State) (p : FeedPurpose) : (t.purposeEnds p c).waits = t.waits := by cases p <;> rfl
  have alarmed (t : State) (n : Node) : (t.endAlarm n c).waits = t.waits := by cases c <;> rfl
  rw [feedEnded_eq, alarmed, told]
  rfl

theorem feedEnded_line (s : State) (b : BayIx) (f : Feed) (c : EndCause) (m : FoamLine) :
    (s.feedEnded b f c).line m = (s.purposeEnds f.purpose c).line m := by
  rw [feedEnded_eq, endAlarm_line]
  cases f.purpose <;> rfl

/-- The end of a feed is told to no other line than its own. -/
theorem purposeEnds_line_ne {s : State} {p : FeedPurpose} {m : FoamLine} (other : p.line? ≠ some m) (c : EndCause) :
    (s.purposeEnds p c).line m = s.line m := by
  cases p with
  | unit tag => rfl
  | batch l number k => exact State.setLine_line_ne s l _ m fun same => other (congrArg some same.symm)

/-- The batch whose feed ends: the cause in its segment, and STALLED unless the cause is CLOSED (R122). -/
theorem purposeEnds_current {s : State} {l : FoamLine} {bt : Batch} (current : (s.line l).current = some bt) (k : Nat)
    (c : EndCause) : ((s.purposeEnds (.batch l bt.number k) c).line l).current = some (bt.endSegment k c) := by
  have told := modCurrent_some current fun bt' => if bt'.number = bt.number then bt'.endSegment k c else bt'
  refine (congrArg (fun t : State => (t.line l).current) told).trans ?_
  rw [State.setLine_line]
  exact congrArg some (if_pos rfl)

section

variable {G : GasClass → Prop} {s : State} (sound : Sound G s) {b : BayIx} {f : Feed} (held : s.feed b = some f)
  (feeding : f.state = .feeding)
include sound held feeding

omit feeding in
/-- A line has one feed: once that has ended nothing feeds for the line (R63). -/
theorem feedEnded_fedFor (own : LinesOwn s) (c : EndCause) (m : FoamLine) (number : Nat) :
    (s.feedEnded b f c).fedFor m number ↔ s.fedFor m number ∧ f.purpose.line? ≠ some m := by
  obtain ⟨-, ended, -⟩ := feedEnded_at s b f c
  have elsewhere {d : BayIx} (other : d ≠ b) : (s.feedEnded b f c).feed d = s.feed d :=
    (feedEnded_reaches s b f c).feed d other
  constructor
  · rintro ⟨d, g, hg, fed⟩
    have other : d ≠ b := by
      rintro rfl
      obtain rfl := Option.some.inj (ended.symm.trans hg)
      exact absurd fed.1 nofun
    rw [elsewhere other] at hg
    refine ⟨⟨d, g, hg, fed⟩, fun line => other (sound.owners.1 d b g hg f held ?_)⟩
    obtain ⟨-, k, purpose⟩ := fed
    have line' := own.feeds d g hg
    rw [purpose, FeedPurpose.line?] at line'
    rw [lineOfNode_eq_some.mp line'.symm, lineOfNode_eq_some.mp ((own.feeds b f held).symm.trans line)]
  · rintro ⟨⟨d, g, hg, fed⟩, other⟩
    have elsewhere := elsewhere (d := d) fun same => by
      subst same
      obtain rfl := Option.some.inj (held.symm.trans hg)
      obtain ⟨-, k, purpose⟩ := fed
      exact other (feedLine_eq_some.mpr ⟨number, k, purpose⟩)
    exact ⟨d, g, elsewhere ▸ hg, fed⟩

omit feeding in
/-- The feed's line rests after the end, with nothing waiting for it; the other lines are in phase as before. -/
theorem Phased.feedEnded (own : LinesOwn s) (c : EndCause)
    (others : ∀ m, f.purpose.line? ≠ some m → LineInPhase s m)
    (line : ∀ m, f.purpose.line? = some m → ((s.feedEnded b f c).line m).resting ∧ ∀ number, ¬s.waitedFor m number) :
    Phased (s.feedEnded b f c) := by
  have fed := feedEnded_fedFor sound held own c
  have waited (m : FoamLine) (number : Nat) : (s.feedEnded b f c).waitedFor m number ↔ s.waitedFor m number := by
    rw [State.waitedFor, feedEnded_waits, ← State.waitedFor]
  refine ⟨⟨fun d g hg => ?_, by rw [feedEnded_waits]; exact own.waits⟩, fun m => ?_⟩
  · by_cases same : d = b
    · subst same
      obtain rfl := Option.some.inj ((feedEnded_at s d f c).2.1.symm.trans hg)
      exact own.feeds d f held
    · rw [(feedEnded_reaches s b f c).feed d same] at hg
      exact own.feeds d g hg
  by_cases its : f.purpose.line? = some m
  · obtain ⟨rest, unwaited⟩ := line m its
    exact (lineInPhase_resting rest).mpr fun number =>
      ⟨fun h => ((fed m number).mp h).2 its, fun h => unwaited number ((waited m number).mp h)⟩
  · have stands (st : BatchState) (number : Nat) :
        (s.feedEnded b f c).batchIs m st number = s.batchIs m st number := by
      simp only [State.batchIs, feedEnded_line, purposeEnds_line_ne its]
    refine ⟨fun number => ?_, fun number => ?_⟩
    · rw [fed, and_iff_left its, stands]
      exact (others m its).fed number
    · rw [waited, stands]
      exact (others m its).waited number

/-- A feed that ends for another cause than CLOSED stalls its batch (R122). -/
theorem Phased.feedEnded_stalls (h : Phased s) {c : EndCause} (cause : c = .closed → f.purpose.line? = none) :
    Phased (s.feedEnded b f c) := by
  refine Phased.feedEnded sound held h.own c (fun m _ => h.lines m) fun m its => ?_
  obtain ⟨number, k, purpose⟩ := feedLine_eq_some.mp its
  obtain ⟨bt, current, opened, rfl⟩ := batchIs_iff.mp (((h.lines m).fed number).mp ⟨b, f, held, feeding, k, purpose⟩)
  refine ⟨fun bt' after => ?_, fun number waited => ?_⟩
  · rw [feedEnded_line, purpose, purposeEnds_current current k c] at after
    obtain rfl := Option.mem_some_iff.mp after
    have stalls : c ≠ .closed := fun closed => by
      rw [cause closed] at its
      exact absurd its nofun
    simp [Batch.endSegment, stalls]
  · exact (h.lines m).unfed waited bt.number (((h.lines m).fed bt.number).mpr (batchIs_iff.mpr ⟨bt, current, opened, rfl⟩))

/-- What comes after the end of a feed keeps the lines in phase (R28, R81). -/
theorem Phased.endFeed_rest {c : EndCause} (told : Phased (s.feedEnded b f c)) : Phased (s.endFeed b c) := by
  obtain ⟨still, -⟩ | ⟨f', held', -, ended⟩ := endFeed_cases s b c
  · exact absurd feeding (still f held)
  obtain rfl := Option.some.inj (held.symm.trans held')
  obtain ⟨closing, -, channel⟩ := feedEnded_at s b f c
  obtain ⟨-, -, e⟩ | ⟨-, e⟩ | e := ended <;> rw [e]
  · exact told.view rfl
  · exact told
  · refine (told.bookByEstimate b).leaveClosing ((sound.feedEnded c held feeding).bookByEstimate b closing ?_) b
    rw [channel]
    refine sound.unwatched fun closed => ?_
    rw [sound.feed_closing held closed] at feeding
    exact absurd feeding nofun

end

section

variable {G : GasClass → Prop} {s : State}

theorem Phased.endFeed (h : Phased s) (sound : Sound G s) (b : BayIx) {c : EndCause}
    (cause : c = .closed → ∀ f ∈ s.feed b, f.purpose.line? = none) : Phased (s.endFeed b c) := by
  obtain ⟨-, e⟩ | ⟨f, held, feeding, -⟩ := endFeed_cases s b c
  · rwa [e]
  · exact Phased.endFeed_rest sound held feeding
      (h.feedEnded_stalls sound held feeding fun closed => cause closed f held)

/-- Every feed of some classes is ended (R138, R142). -/
theorem Phased.endFeeds (h : Phased s) (sound : Sound G s) (which : GasClass → Bool) {c : EndCause} (stalls : c ≠ .closed) :
    Phased (s.endFeeds which c) := by
  have one {t : State} (sound : Sound G t) (h : Phased t) (n : Node) : Phased (t.endOwned which c n) := by
    unfold State.endOwned
    split
    · split
      · exact h.endFeed sound _ fun closed => absurd closed stalls
      · exact h
    · exact h
  rw [endFeeds_eq]
  generalize allNodes = ns
  induction ns generalizing s with
  | nil => exact h
  | cons n rest ih => exact ih (one sound h n) (sound.endOwned which c n).1

/-- Every entry of a kind leaves (R96). -/
theorem Phased.purge (h : Phased s) (which : WaitEntry → Bool) (st : Status) : Phased (s.purge which st) := by
  have one {t : State} (h : Phased t) (n : Node) : Phased (t.purgeOwned which st n) := by
    unfold State.purgeOwned
    split
    · next found =>
      split
      · exact h.endEntry (List.mem_of_find?_eq_some found) st
      · exact h
    · exact h
  rw [purge_eq]
  generalize allNodes = ns
  induction ns generalizing s with
  | nil => exact h
  | cons n rest ih => exact ih (one h n)

theorem alarm_view (s : State) (k : AlarmKind) (x : Option Nat) (v : Int) : (s.alarm k x v).phaseView = s.phaseView := rfl

/-- The interlock items are no matter of phase; a drop of the permit ends what it must (R138). -/
theorem Phased.setInterlock (h : Phased s) (sound : Sound G s) (i : Interlock) : Phased (s.setInterlock i) := by
  have written : Phased { s with interlock := i } := h.view rfl
  have sound' : Sound G { s with interlock := i } :=
    ⟨sound.running, sound.bays, sound.owners, sound.nodup, sound.slots, sound.waitGas, sound.feedGas⟩
  unfold State.setInterlock
  dsimp only
  split
  · have cleared := (written.endFeeds sound' flammable (c := .interlock) nofun).purge (fun e => flammable e.cls) .permitOff
    exact cleared.view (alarm_view _ _ _ _)
  · exact written

theorem Phased.assertEstop (h : Phased s) (sound : Sound G s) : Phased (assertEstop s) := by
  have written : Phased { s with interlock := { s.interlock with estop := true } } := h.view rfl
  have sound' : Sound G { s with interlock := { s.interlock with estop := true } } :=
    ⟨sound.running, sound.bays, sound.owners, sound.nodup, sound.slots, sound.waitGas, sound.feedGas⟩
  unfold Machine.assertEstop
  split
  · exact h
  · have cleared := (written.endFeeds sound' (fun _ => true) (c := .estop) nofun).purge (fun _ => true) .estop
    exact cleared.view (alarm_view _ _ _ _)

/-! ### Readings and the close watch (R26, R28 to R30, R59) -/

theorem takeSettledNet_view (s : State) (b : BayIx) (net : Nat) : (s.takeSettledNet b net).phaseView = s.phaseView := by
  unfold State.takeSettledNet
  dsimp only
  split <;> rfl

theorem view_feed {s t : State} (same : t.phaseView = s.phaseView) (b : BayIx) : t.feed b = s.feed b := by
  have feeds : t.feeds = s.feeds := congrArg Prod.fst same
  simp only [State.feed, feeds]

theorem Phased.deliverReading (h : Phased s) (sound : Sound G s) (b : BayIx) (p : WindowPurpose) (gross : Nat)
    (unstable : Bool) : Phased (s.deliverReading b p gross unstable) := by
  have netted := takeSettledNet_view s b ((s.bay b).settledNet gross)
  cases p with
  | baseline =>
    unfold State.deliverReading State.deliverBaseline
    dsimp only
    split
    · next settling =>
      refine (h.view netted).readyOrFull fun f held => ?_
      rw [view_feed netted, sound.idle_feed (by rw [settling]; exact ⟨nofun, nofun⟩)] at held
      exact absurd held nofun
    · exact h
  | feedEnd =>
    unfold State.deliverReading State.deliverFeedEnd
    dsimp only
    split
    · exact h
    next f held =>
    split
    · exact h
    next unsettled =>
    have closing : (s.bay b).state = .closing := by
      by_contra other
      exact unsettled (.inr other)
    have noted : (if (weighedGain f.startNet ((s.bay b).settledNet gross) unstable).clampedNegative then
        (s.takeSettledNet b ((s.bay b).settledNet gross)).alarm .negativeGain (some b.val)
        else s.takeSettledNet b ((s.bay b).settledNet gross)).phaseView = s.phaseView := by
      split <;> exact netted
    have booked := (h.view noted).bookGain (f' := f) (weighedGain f.startNet ((s.bay b).settledNet gross) unstable)
      ((view_feed noted b).trans held) rfl rfl rfl
    refine Phased.readyOrFull (booked.unfeed fun f' held' => ?_) ?_
    · rw [bookGain_eq_bookTold, State.setFeed_feed] at held'
      obtain rfl := Option.mem_some_iff.mp held'
      exact fun feeding => absurd ((sound.feed_closing held closing).symm.trans feeding) nofun
    · rw [State.setFeed_feed]
      exact nofun
  | zeroCapture => exact h

theorem Phased.confirmClose (h : Phased s) (sound : Sound G s) {b : BayIx} (closing : (s.bay b).state = .closing) :
    Phased (s.confirmClose b) := by
  have ended : Phased (s.setBay b { s.bay b with closeWatch := none }) := h.view rfl
  unfold State.confirmClose
  dsimp only
  split
  · exact ended
  split
  · exact ended.leaveClosing (sound.endWatch b closing) b
  split
  · exact ended.view rfl
  · exact ended

/-- A booking by estimate leaves the state of the feed as it is (R81). -/
theorem bookByEstimate_feed_state {b : BayIx} {f : Feed} (after : f ∈ (s.bookByEstimate b).feed b) :
    ∃ f' ∈ s.feed b, f.state = f'.state := by
  obtain ⟨-, e⟩ | ⟨f', held, -, e⟩ := bookByEstimate_cases s b <;> rw [e] at after
  · exact ⟨f, after, rfl⟩
  · rw [bookGain_eq_bookTold, State.setFeed_feed] at after
    obtain rfl := Option.mem_some_iff.mp after
    exact ⟨f', held, rfl⟩

theorem Phased.expireClose (h : Phased s) (sound : Sound G s) {b : BayIx} (watch : (s.bay b).closeWatch ≠ none) :
    Phased (s.expireClose b) := by
  have closing : (s.bay b).state = .closing := by
    obtain ⟨-, -, closing, -⟩ := sound.bays b
    exact closing watch
  have failed : Phased ((s.setBay b { s.bay b with state := .fault, closeWatch := none }).alarm .valveFault (some b.val)) :=
    h.view rfl
  refine (failed.bookByEstimate b).unfeed fun f after feeding => ?_
  obtain ⟨f', held, state⟩ := bookByEstimate_feed_state after
  exact absurd ((sound.feed_closing held closing).symm.trans (state.symm.trans feeding)) nofun

end

end Sys2Proof.Machine
end

section
namespace Sys2Proof.Machine

/-! ### Requests (Chapters 1, 2, 4, 5, 7, 8 and 10) -/

/-- From `s` to `t` the lines stay in phase, where feeds, bays and entries agree at the start. -/
def KeepsPhase (s t : State) : Prop := Sound (GasFree s) s → Phased s → Phased t

theorem KeepsPhase.of_view {s t : State} (same : t.phaseView = s.phaseView) : KeepsPhase s t := fun _ h => h.view same

theorem KeepsPhase.refl (s : State) : KeepsPhase s s := fun _ => id

theorem KeepsPhase.view {s t u : State} (h : KeepsPhase s t) (same : u.phaseView = t.phaseView) : KeepsPhase s u :=
  fun sound ok => (h sound ok).view same

theorem Acts.sound {s t : State} (acts : Acts s t) (sound : Sound (GasFree s) s) : Sound (GasFree t) t :=
  acts.keeps (P := fun s => Sound (GasFree s) s) (fun _ _ a h => a.sound h) sound

theorem KeepsPhase.trans {s t u : State} (h : KeepsPhase s t) (acts : Acts s t) (k : KeepsPhase t u) : KeepsPhase s u :=
  fun sound ok => k (acts.sound sound) (h sound ok)

/-- A request for a feed is refused, granted the chosen bay, or joins the Wait List (R66, R88). -/
theorem askFeed_cases (s : State) (n : Node) (tag : Nat) (k : ReqKind) (g : GasClass) (w : WaitPurpose) :
    ((s.askFeed n tag k g w).state = s ∧ (s.askFeed n tag k g w).status ≠ .deferred) ∨
      (∃ b, s.chooseVessel g = some b ∧ (s.askFeed n tag k g w).state = s.grant b n w g ∧
        (s.askFeed n tag k g w).status ≠ .deferred) ∨
      ((s.askFeed n tag k g w).state = s.joinWait n tag k g w ∧ (s.askFeed n tag k g w).status = .deferred) := by
  unfold State.askFeed
  split
  · exact .inl ⟨rfl, nofun⟩
  split
  · exact .inl ⟨rfl, nofun⟩
  unfold State.decideFeed
  split
  · next b chosen => exact .inr (.inl ⟨b, chosen, rfl, nofun⟩)
  split
  · exact .inr (.inr ⟨rfl, rfl⟩)
  · exact .inl ⟨rfl, nofun⟩

/-- A bay that the vessel choice finds does not feed. -/
theorem Sound.chosen_still {G : GasClass → Prop} {s : State} (sound : Sound G s) {g : GasClass} {b : BayIx}
    (chosen : s.chooseVessel g = some b) : ∀ f ∈ s.feed b, f.state ≠ .feeding := by
  rw [sound.idle_feed (b := b) (by rw [chooseVessel_ready chosen]; exact ⟨nofun, nofun⟩)]
  exact nofun

theorem askForBatch_keepsPhase {s : State} {n : Node} (tag : Nat) (k : ReqKind) {l : FoamLine} {bt : Batch}
    (current : (s.line l).current = some bt) (stalled : bt.state = .stalled) (node : lineOfNode n = some l) :
    KeepsPhase s (askForBatch s n tag k l bt).state := by
  intro sound h
  have rest : (s.line l).resting := fun bt' held => by
    obtain rfl := Option.mem_unique held current
    rw [stalled]
    exact ⟨nofun, nofun⟩
  have free := (lineInPhase_resting rest).mp (h.lines l)
  unfold askForBatch
  dsimp only
  obtain ⟨state, status⟩ | ⟨b, chosen, state, status⟩ | ⟨state, status⟩ :=
    askFeed_cases s n tag k bt.cls (.batch l bt.number)
  · rwa [if_neg status, state]
  · rw [if_neg status, state]
    exact Phased.grant_batch h.own current node (sound.chosen_still chosen) free (fun m _ => h.lines m) bt.cls
  · rw [if_pos status, state]
    exact h.joinWait_batch current rest node tag k bt.cls

theorem ownFoamOpen_keepsPhase (s : State) (n : Node) (tag cls : Nat) : KeepsPhase s (ownFoamOpen n tag cls s).state := by
  unfold ownFoamOpen
  split
  · exact .refl s
  · exact .refl s
  next g l _ node =>
  split
  · exact .refl s
  next vacant =>
  split
  · exact .refl s
  split
  · exact .refl s
  have vacant : (s.line l).current = none := by simpa using vacant
  have created : KeepsPhase s (s.batchCreated l g) := fun _ h =>
    h.setResting (by rw [LineRec.resting, vacant]; exact nofun) fun bt held => by
      obtain rfl := Option.mem_some_iff.mp held
      exact ⟨nofun, nofun⟩
  have acts : Acts s (s.batchCreated l g) := (Acts.refl s).setLine l fun _ => by
    dsimp only [nextBatchNumber]
    split <;> omega
  exact created.trans acts (askForBatch_keepsPhase tag .foamOpen (batchCreated_current s l g) rfl node)

theorem ownFoamResume_keepsPhase (s : State) (n : Node) (tag : Nat) : KeepsPhase s (ownFoamResume n tag s).state := by
  unfold ownFoamResume
  split
  · exact .refl s
  next l node =>
  split
  · exact .refl s
  next bt current =>
  split
  · exact .refl s
  next stalled =>
  split
  · exact .refl s
  split
  · exact .refl s
  split
  · exact .refl s
  exact askForBatch_keepsPhase tag .foamResume current (by simpa using stalled) node

/-! #### FOAM_CLOSE (R126 to R130) -/

section

variable {s : State}

/-- A resting batch completes, or waits in CLOSING (R128). -/
theorem Phased.closeStalled (h : Phased s) {l : FoamLine} (rest : (s.line l).resting) (n : Node) (tag : Nat)
    (bt : Batch) : Phased (closeStalled n tag l bt s).state := by
  unfold Machine.closeStalled
  split
  · exact h.completeBatch rest
  split
  · have closing : Phased (s.modCurrent l (fun b => { b with state := .closing })) :=
      h.setResting rest (resting_map fun _ => ⟨nofun, nofun⟩)
    exact closing.view rfl
  · exact h

/-- The feed that runs for a node is that node's (R63). -/
theorem runningFeed_owner {n : Node} {b : BayIx} {f : Feed} (running : s.runningFeed n = some (b, f)) : f.owner = n := by
  unfold State.runningFeed at running
  split at running
  · next c g owned =>
    split at running
    · obtain ⟨rfl, rfl⟩ := Prod.mk.inj (Option.some.inj running)
      exact (ownedFeed_eq_some owned).2
    · exact absurd running nofun
  · exact absurd running nofun

/-- A node whose feed is FEEDING has it running: it owns no other (R63). -/
theorem Sound.runningFeed {G : GasClass → Prop} (sound : Sound G s) {b : BayIx} {f : Feed} (held : s.feed b = some f)
    (feeding : f.state = .feeding) : s.runningFeed f.owner = some (b, f) := by
  cases owned : s.ownedBay f.owner with
  | none => exact absurd rfl (ownedBay_eq_none owned b f held)
  | some c =>
    have own := List.find?_some owned
    split at own
    · next g held' =>
      obtain rfl := sound.owners.1 c b g held' f held (by simpa using own)
      rw [runningFeed_owned owned held, if_pos feeding]
    · exact absurd own nofun

/-- The batch goes to CLOSING, and its feed ends CLOSED (R127). -/
theorem Phased.closeOpen {G : GasClass → Prop} (h : Phased s) (sound : Sound G s) {l : FoamLine} {n : Node} {b : BayIx}
    {f : Feed} (node : lineOfNode n = some l) (running : s.runningFeed n = some (b, f)) (tag : Nat) :
    Phased (closeOpen n tag l b s).state := by
  obtain ⟨held, feeding⟩ := runningFeed_eq_some running
  have its : f.purpose.line? = some l := by rw [h.own.feeds b f held, runningFeed_owner running, node]
  obtain ⟨number, k, purpose⟩ := feedLine_eq_some.mp its
  have fed : s.fedFor l number := ⟨b, f, held, feeding, k, purpose⟩
  have closing : (s.modCurrent l (fun x => { x with state := .closing })).line l
      = { s.line l with current := (s.line l).current.map (fun x => { x with state := .closing }) } := by
    rw [modCurrent_spec, State.setLine_line]
  have ended : Phased ((s.modCurrent l (fun x => { x with state := .closing })).endFeed b .closed) := by
    have sound' : Sound G (s.modCurrent l (fun x => { x with state := .closing })) :=
      sound.asides ((Asides.refl s).modCurrent l _)
    refine Phased.endFeed_rest sound' held feeding (Phased.feedEnded sound' held (h.own.setLine l _) .closed
      (fun m other => (h.lines m).setLine_ne (fun same => other (same ▸ its)) _) fun m its' => ?_)
    obtain rfl := Option.some.inj (its.symm.trans its')
    refine ⟨fun bt' after => ?_, fun k waited => (h.lines l).unfed waited number fed⟩
    rw [feedEnded_line, purpose] at after
    have told := (congrArg LineRec.current (State.setLine_line _ l _)).symm.trans after
    obtain ⟨bt₀, before, rfl⟩ := Option.map_eq_some_iff.mp told
    rw [closing] at before
    obtain ⟨bt₁, -, rfl⟩ := Option.map_eq_some_iff.mp before
    dsimp only
    split <;> simp
  unfold Machine.closeOpen
  dsimp only
  split
  · exact ended
  split
  · exact ended.view rfl
  · exact h

theorem ownFoamClose_keepsPhase (s : State) (n : Node) (tag : Nat) : KeepsPhase s (ownFoamClose n tag s).state := by
  intro sound h
  unfold ownFoamClose
  split
  · exact h
  next l node =>
  split
  · exact h
  next bt current =>
  split
  · exact h
  · exact h
  · next stalled =>
    refine h.closeStalled (fun bt' held => ?_) n tag bt
    obtain rfl := Option.mem_unique held current
    rw [stalled]
    exact ⟨nofun, nofun⟩
  · next waiting =>
    obtain ⟨e, he, purpose⟩ := ((h.lines l).waited bt.number).mpr (batchIs_iff.mpr ⟨bt, current, waiting, rfl⟩)
    split
    · next e found =>
      have his : e.purpose.line? = some l := by
        rw [h.own.waits e (List.mem_of_find?_eq_some found), entry_node found, node]
      refine (h.endEntry (List.mem_of_find?_eq_some found) .withdrawn).closeStalled ?_ n tag bt
      rw [endEntry_batch his current, State.setLine_line]
      intro bt' held
      obtain rfl := Option.mem_some_iff.mp held
      exact ⟨nofun, nofun⟩
    · next absent =>
      have its : e.node = n := by
        rw [lineOfNode_eq_some.mp node]
        exact lineOfNode_eq_some.mp ((h.own.waits e he).symm.trans (waitLine_eq_some.mpr ⟨bt.number, purpose⟩))
      have present := entry_isSome.mpr ⟨e, he, its⟩
      rw [absent] at present
      exact absurd present nofun
  · next opened =>
    obtain ⟨b, f, held, feeding, k, purpose⟩ := ((h.lines l).fed bt.number).mpr (batchIs_iff.mpr ⟨bt, current, opened, rfl⟩)
    have its : f.owner = n := by
      rw [lineOfNode_eq_some.mp node]
      exact lineOfNode_eq_some.mp ((h.own.feeds b f held).symm.trans (feedLine_eq_some.mpr ⟨bt.number, k, purpose⟩))
    rw [← its, sound.runningFeed held feeding, its]
    exact h.closeOpen sound node (its ▸ sound.runningFeed held feeding) tag

end

end Sys2Proof.Machine
end

section
namespace Sys2Proof.Machine

/-! #### Feed requests (R66, R69, R77, R94) -/

/-- A station is no foam line (R114, R166). -/
theorem lineOfNode_station {n : Node} (role : roleOf n = .station) : lineOfNode n = none := by
  revert n
  decide

theorem ownFeedOpen_keepsPhase (s : State) {n : Node} (role : roleOf n = .station) (tag : Nat) :
    KeepsPhase s (ownFeedOpen n tag s).state := by
  intro sound h
  have node := lineOfNode_station role
  unfold ownFeedOpen
  split
  · exact h
  next u _ =>
  split
  · exact h
  split
  · exact h
  split
  · exact h
  next g _ =>
  obtain ⟨state, -⟩ | ⟨b, chosen, state, -⟩ | ⟨state, -⟩ := askFeed_cases s n tag .feedOpen g (.unit u.tag) <;> rw [state]
  · exact h
  · exact h.grant_unit node (sound.chosen_still chosen) u.tag g
  · exact h.joinWait_unit node tag u.tag .feedOpen g

theorem storeEstimate_keepsPhase {s : State} {b : BayIx} {f f' : Feed} (held : s.feed b = some f)
    (owner : f'.owner = f.owner) (purpose : f'.purpose = f.purpose) (state : f'.state = f.state) :
    KeepsPhase s (s.storeEstimate b f') := by
  intro _ h
  have stored := h.updateFeed held owner purpose state
  unfold State.storeEstimate
  dsimp only
  split
  · exact stored.view rfl
  · exact stored

theorem storeEstimate_feed (s : State) (b : BayIx) (f : Feed) : (s.storeEstimate b f).feed b = some f := by
  unfold State.storeEstimate
  dsimp only
  split <;> exact State.setFeed_feed s b _

theorem endFeed_keepsPhase (s : State) (b : BayIx) {c : EndCause} (cause : c = .closed → ∀ f ∈ s.feed b, f.purpose.line? = none) :
    KeepsPhase s (s.endFeed b c) := fun sound h => h.endFeed sound b cause

theorem ownFeedProgress_keepsPhase (s : State) (n : Node) (flow : Nat) :
    KeepsPhase s (ownFeedProgress n flow s).state := by
  unfold ownFeedProgress
  split
  · rw [endedAnswer_state]
    exact .refl s
  next b f running =>
  obtain ⟨held, feeding⟩ := runningFeed_eq_some running
  have renewed (phased : f.phased) : Feed.phased
      { f with estimate := 10 * flow, holdDeadline := some (s.now + 1000 * s.params.holdTime) } := by
    obtain ⟨-, -, unended, unbooked⟩ | ⟨closing, -⟩ := phased
    · exact .inl ⟨feeding, nofun, unended, unbooked⟩
    · simp [feeding] at closing
  have stored := storeEstimate_keepsPhase (f' := { f with
    estimate := 10 * flow, holdDeadline := some (s.now + 1000 * s.params.holdTime) }) held rfl rfl rfl
  dsimp only
  split
  · rw [endedAnswer_state]
    exact stored.trans (storeEstimate_acts held rfl rfl rfl rfl renewed) (endFeed_keepsPhase _ b nofun)
  · exact stored

/-- A station's feed is for a unit, so that its end CLOSED is no matter of any line (R77, R122). -/
theorem ownFeedClose_keepsPhase (s : State) {n : Node} (role : roleOf n = .station) (tag flow : Nat) :
    KeepsPhase s (ownFeedClose n tag flow s).state := by
  unfold ownFeedClose
  split
  · split
    · exact .refl s
    · rw [endedAnswer_state]
      exact .refl s
  next b f running =>
  obtain ⟨held, -⟩ := runningFeed_eq_some running
  have closed : KeepsPhase s ((s.storeEstimate b { f with estimate := 10 * flow }).endFeed b .closed) := by
    intro sound h
    have unfoamed : f.purpose.line? = none := by
      rw [h.own.feeds b f held, runningFeed_owner running, lineOfNode_station role]
    have stored := storeEstimate_keepsPhase (f' := { f with estimate := 10 * flow }) held rfl rfl rfl
    refine stored.trans (storeEstimate_acts held rfl rfl rfl rfl id) (endFeed_keepsPhase _ b fun _ g hg => ?_) sound h
    obtain rfl := Option.some.inj ((storeEstimate_feed s b _).symm.trans hg)
    exact unfoamed
  dsimp only
  split
  · exact closed
  split
  · exact closed.view rfl
  · exact .refl s

theorem ownFeedCancel_keepsPhase (s : State) (n : Node) : KeepsPhase s (ownFeedCancel n s).state := by
  unfold ownFeedCancel
  split
  · exact .refl s
  · next found => exact fun _ h => h.endEntry (List.mem_of_find?_eq_some found) .withdrawn

/-! #### Requests about cabinets, vessels and settings (R32, R43, R125, R137) -/

theorem ownCabinetAdmit_keepsPhase (s : State) (n : Node) (unit cls : Nat) :
    KeepsPhase s (ownCabinetAdmit n unit cls s).state := by
  have admitted (l : FoamLine) (c : Cabinet) :
      KeepsPhase s (s.modCurrent l (fun b => { b with cabinets := b.cabinets ++ [c] })) :=
    fun _ h => h.modCurrent (fun _ => rfl) fun _ => rfl
  unfold ownCabinetAdmit
  split
  · exact .refl s
  · exact .refl s
  next l _ _ =>
  split
  · exact .refl s
  split
  · exact .refl s
  split
  · exact .refl s
  split
  · exact .refl s
  split
  · exact .refl s
  split
  · exact .refl s
  split
  · exact .refl s
  dsimp only
  split
  · split
    · exact (admitted l _).view rfl
    · exact (admitted l _).view rfl
  · exact (admitted l _).view rfl

theorem ownVesselMount_keepsPhase (s : State) (bay vid cls capacity tare : Nat) :
    KeepsPhase s (ownVesselMount bay vid cls capacity tare s).state := by
  unfold ownVesselMount
  split
  · split
    · exact .refl s
    split
    · exact .refl s
    next b _ _ _ _ out =>
    split
    · exact .refl s
    split
    · exact .refl s
    refine fun sound h => Phased.view ?_ (enterService_view _ b)
    have unfed : Phased (s.setFeed b none) := h.unfeed (by
      rw [sound.idle_feed (idle_of_outOfService (by simpa using out))]
      exact nofun)
    exact unfed.view rfl
  · exact .refl s

theorem ownCalibrate_view (s : State) (bay zeroAt scale : Nat) :
    (ownCalibrate bay zeroAt scale s).state.phaseView = s.phaseView := by
  unfold ownCalibrate
  split
  · rfl
  split
  · rfl
  split
  · rfl
  split
  · rfl
  dsimp only
  split
  · rfl
  · exact enterService_view _ _

theorem ownClearFault_view (s : State) (bay : Nat) : (ownClearFault bay s).state.phaseView = s.phaseView := by
  unfold ownClearFault
  split
  · rfl
  split
  · rfl
  · exact enterService_view _ _

theorem scan_feed_ne (s : State) {b c : BayIx} (other : c ≠ b) : (s.scan b).feed c = s.feed c := by
  obtain ⟨-, e⟩ | ⟨x, -, e⟩ := scan_cases s b <;> rw [e]
  have dropped : Reaches (· = b) s (s.dropEntry x.node) := (Reaches.here b s).setWaits List.filter_sublist
  have granted := (((dropped.setFeed rfl _).setBay rfl _).setValve rfl true).asides (grant_asides _ b x.node x.purpose x.cls)
  exact (granted.asides (answerEntry_asides _ x .ok _)).feed c other

/-- Bays without a feed are scanned one after another, each once. -/
theorem Phased.scans (bs : List BayIx) (single : bs.Nodup) {s : State} (h : Phased s) (free : ∀ b ∈ bs, s.feed b = none) :
    Phased (bs.foldl State.scan s) := by
  induction bs generalizing s with
  | nil => exact h
  | cons b rest ih =>
    obtain ⟨fresh, single⟩ := List.nodup_cons.mp single
    refine ih single (h.scan (by rw [free b List.mem_cons_self]; exact nofun)) fun c hc => ?_
    rw [scan_feed_ne s (by rintro rfl; exact fresh hc)]
    exact free c (List.mem_cons_of_mem b hc)

theorem reviewBays_view (bs : List BayIx) (s : State) : (bs.foldl State.reviewBay s).phaseView = s.phaseView := by
  induction bs generalizing s with
  | nil => rfl
  | cons b rest ih =>
    refine (ih _).trans ?_
    rw [reviewBay_eq]
    rfl

/-- A bay that rises was FULL, without a feed (R43). -/
theorem reviewReserve_keepsPhase (s : State) : KeepsPhase s s.reviewReserve := by
  intro sound h
  have reviewed := reviewBays_view allBays s
  refine Phased.scans _ (List.Nodup.filter _ (by decide)) (h.view reviewed) fun b rises => ?_
  rw [view_feed reviewed]
  obtain ⟨-, full⟩ := List.mem_filter.mp rises
  simp only [Bool.and_eq_true, beq_iff_eq] at full
  obtain ⟨⟨full, -⟩, -⟩ := full
  exact sound.idle_feed (by rw [full]; exact ⟨nofun, nofun⟩)

theorem ownSetParam_keepsPhase (s : State) (id value : Nat) : KeepsPhase s (ownSetParam id value s).state := by
  unfold ownSetParam
  split
  · exact .refl s
  next lo hi _ =>
  unfold appliedAnswer State.applyParam
  dsimp only
  split
  · intro sound h
    have set : Phased { s with params := s.params.setId id (clamp lo hi value) } := h.view rfl
    exact reviewReserve_keepsPhase _
      ⟨sound.running, sound.bays, sound.owners, sound.nodup, sound.slots, sound.waitGas, sound.feedGas⟩ set
  · exact .of_view rfl

theorem ownPermit_keepsPhase (s : State) (value : Nat) : KeepsPhase s (ownPermit value s).state := by
  unfold ownPermit
  split
  · exact .refl s
  · exact fun sound h => h.setInterlock sound _

/-! #### Requests that reach no feed, entry or batch (Chapters 1, 2 and 10) -/

theorem ownLinkStats_view (s : State) (n : Node) (addr : Nat) :
    (ownLinkStats n addr s).state.phaseView = s.phaseView := by
  unfold ownLinkStats
  repeat' split
  all_goals rfl

theorem ownSetDigest_view (s : State) (n : Node) (items : List (Nat × Nat)) :
    (ownSetDigest n items s).state.phaseView = s.phaseView := by
  unfold ownSetDigest
  repeat' split
  all_goals rfl

theorem ownAlarmRead_view (s : State) (group : Nat) : (ownAlarmRead group s).state.phaseView = s.phaseView := by
  unfold ownAlarmRead
  repeat' split
  all_goals rfl

theorem ownSetExpect_view (s : State) (category cls grams : Nat) :
    (ownSetExpect category cls grams s).state.phaseView = s.phaseView := by
  unfold ownSetExpect
  repeat' split
  all_goals rfl

theorem ownAnnounce_view (s : State) (unit category refr charge foam : Nat) :
    (ownAnnounce unit category refr charge foam s).state.phaseView = s.phaseView := by
  unfold ownAnnounce
  repeat' split
  all_goals rfl

theorem ownDegasBegin_view (s : State) (n : Node) (unit cls : Nat) :
    (ownDegasBegin n unit cls s).state.phaseView = s.phaseView := by
  unfold ownDegasBegin
  dsimp only
  repeat' split
  all_goals rfl

theorem ownUnitRelease_view (s : State) (unit : Nat) : (ownUnitRelease unit s).state.phaseView = s.phaseView := by
  unfold ownUnitRelease
  repeat' split
  all_goals rfl

theorem ownVesselRetire_view (s : State) (bay : Nat) : (ownVesselRetire bay s).state.phaseView = s.phaseView := by
  unfold ownVesselRetire
  repeat' split
  all_goals rfl

theorem ownZeroCapture_view (s : State) (bay scale : Nat) :
    (ownZeroCapture bay scale s).state.phaseView = s.phaseView := by
  unfold ownZeroCapture
  repeat' split
  all_goals rfl

theorem ownDegasEnd_view (s : State) (n : Node) (outcome : Nat) :
    (ownDegasEnd n outcome s).state.phaseView = s.phaseView := by
  have complete (u : UnitRec) : (endComplete s u).state.phaseView = s.phaseView := by
    unfold endComplete
    dsimp only
    split <;> rfl
  unfold ownDegasEnd
  split
  · rfl
  split
  · rfl
  split
  · rfl
  split
  · exact complete _
  split
  · split
    · rfl
    · exact complete _
  · rfl

/-! #### Taking a request (R151, R167) -/

theorem take_keepsPhase {act : State → Taken} {s : State} {n : Node} {k : ReqKind}
    (h : permitted k (roleOf n) = true → KeepsPhase s (act s).state) (tag : Nat) : KeepsPhase s (take n tag k act s) := by
  cases role : permitted k (roleOf n) with
  | true =>
    rw [take_permitted n tag k act s role]
    exact (h role).view rfl
  | false =>
    rw [take_denied n tag k act s role]
    exact .of_view rfl

theorem take_view {act : State → Taken} {s : State} (same : (act s).state.phaseView = s.phaseView) (n : Node) (tag : Nat)
    (k : ReqKind) : KeepsPhase s (take n tag k act s) := take_keepsPhase (fun _ => .of_view same) tag

theorem takeRequest_keepsPhase (i : Instr) (s : State) : KeepsPhase s (takeRequest i s) := by
  cases i with
  | feedOpen n t => exact take_keepsPhase (fun role => ownFeedOpen_keepsPhase s (by simpa [permitted] using role) t) t
  | feedProgress n t flow => exact take_keepsPhase (fun _ => ownFeedProgress_keepsPhase s n flow) t
  | feedClose n t flow =>
    exact take_keepsPhase (fun role => ownFeedClose_keepsPhase s (by simpa [permitted] using role) t flow) t
  | feedCancel n t => exact take_keepsPhase (fun _ => ownFeedCancel_keepsPhase s n) t
  | foamOpen n t cls => exact take_keepsPhase (fun _ => ownFoamOpen_keepsPhase s n t cls) t
  | foamResume n t => exact take_keepsPhase (fun _ => ownFoamResume_keepsPhase s n t) t
  | foamClose n t => exact take_keepsPhase (fun _ => ownFoamClose_keepsPhase s n t) t
  | cabinetAdmit n t unit cls => exact take_keepsPhase (fun _ => ownCabinetAdmit_keepsPhase s n unit cls) t
  | vesselMount n t bay vid cls capacity tare =>
    exact take_keepsPhase (fun _ => ownVesselMount_keepsPhase s bay vid cls capacity tare) t
  | setParam n t id value => exact take_keepsPhase (fun _ => ownSetParam_keepsPhase s id value) t
  | permit n t value => exact take_keepsPhase (fun _ => ownPermit_keepsPhase s value) t
  | calibrate n t bay zeroAt scale => exact take_view (ownCalibrate_view s bay zeroAt scale) n t _
  | vesselClearFault n t bay => exact take_view (ownClearFault_view s bay) n t _
  | replyLimit n t bytes => exact take_view rfl n t _
  | linkOptions n t options => exact take_view rfl n t _
  | feedOutcome n t => exact take_view (by rw [ownFeedOutcome_state]) n t _
  | batchQuery n t line slot => exact take_view (by rw [ownBatchQuery_state]) n t _
  | unitQuery n t unit => exact take_view (by rw [ownUnitQuery_state]) n t _
  | vesselQuery n t bay => exact take_view (by rw [ownVesselQuery_state]) n t _
  | linkStats n t addr => exact take_view (ownLinkStats_view s n addr) n t _
  | setDigest n t items => exact take_view (ownSetDigest_view s n items) n t _
  | alarmRead n t group => exact take_view (ownAlarmRead_view s group) n t _
  | setExpect n t category cls grams => exact take_view (ownSetExpect_view s category cls grams) n t _
  | announce n t unit category refr charge foam => exact take_view (ownAnnounce_view s unit category refr charge foam) n t _
  | degasBegin n t unit cls => exact take_view (ownDegasBegin_view s n unit cls) n t _
  | degasEnd n t outcome => exact take_view (ownDegasEnd_view s n outcome) n t _
  | unitRelease n t unit => exact take_view (ownUnitRelease_view s unit) n t _
  | vesselRetire n t bay => exact take_view (ownVesselRetire_view s bay) n t _
  | calibrateZeroCapture n t bay scale => exact take_view (ownZeroCapture_view s bay scale) n t _
  | _ => exact .refl s

end Sys2Proof.Machine
end

section
namespace Sys2Proof.Machine

/-! ### Samples, deadlines and switches (Chapters 2 to 5) -/

theorem dropCapture_view (s : State) (b : BayIx) : (s.dropCapture b).phaseView = s.phaseView := by
  unfold State.dropCapture
  split
  · split <;> rfl
  · rfl

/-- The loss of a channel without a window is handed on by the state of its bay (R27, R48, R60, R81). -/
theorem handLoss_keepsPhase {s : State} {b : BayIx} (window : (s.channel b).window = none) :
    KeepsPhase s (s.handLoss b) := by
  intro sound h
  unfold State.handLoss
  split
  · exact h.view rfl
  · exact h.view rfl
  · split
    · exact h
    · next f held =>
      have unweighed : Phased (s.setFeed b (some { f with weightKept := false })) := h.updateFeed held rfl rfl rfl
      exact unweighed.view rfl
  · next closing =>
    exact (h.bookByEstimate b).leaveClosing
      (sound.bookByEstimate b closing (by simp [Channel.unwatched, window])) b
  · exact h

theorem loseChannel_keepsPhase (s : State) (b : BayIx) : KeepsPhase s (s.loseChannel b) := by
  intro sound h
  have lost := (sound.channel b (r := (s.channel b).lose) (by simp [Channel.lose])).asides
    ((Asides.refl _).alarm .channelLost (some b.val) 0)
  have dropped := Acts.sound ((Acts.refl ((s.setChannel b (s.channel b).lose).alarm .channelLost (some b.val))).dropCapture b)
    lost
  have noted : ((((s.setChannel b (s.channel b).lose).alarm .channelLost (some b.val)).dropCapture b)).phaseView
      = s.phaseView := dropCapture_view _ b
  refine handLoss_keepsPhase ?_ dropped (h.view noted)
  rw [dropCapture_channel, State.alarm_channel, State.setChannel_channel]
  rfl

/-- A channel back to OK changes its bay, and the weight flag of its feed (R27, R49, R60). -/
theorem returnChannel_keepsPhase (s : State) (b : BayIx) : KeepsPhase s (s.returnChannel b) := by
  intro _ h
  have opened : Phased (s.setChannel b { s.channel b with state := .ok }) := h.view rfl
  unfold State.returnChannel
  dsimp only
  split
  · exact opened.view (enterService_view _ b)
  · split
    · exact opened
    · next f held =>
      exact Phased.view (opened.updateFeed (f' := { f with weightKept := true }) held rfl rfl rfl) rfl
  · exact opened

theorem finishCapture_view (s : State) (b : BayIx) (codes : List Nat) :
    (s.finishCapture b codes).phaseView = s.phaseView := by
  unfold State.finishCapture
  split
  · split <;> rfl
  · rfl

theorem judgeSet_keepsPhase (s : State) (b : BayIx) (w : Window) (xs : List Nat) : KeepsPhase s (s.judgeSet b w xs) := by
  intro sound h
  have ended : Phased (s.setChannel b { s.channel b with window := none }) := h.view rfl
  have sound' := sound.channel b (r := { s.channel b with window := none }) (by simp)
  unfold State.judgeSet
  dsimp only
  split
  · exact ended.deliverReading sound' b _ _ _
  split
  · exact h.view rfl
  · exact (ended.view (alarm_view _ _ _ _)).deliverReading (sound'.asides ((Asides.refl _).alarm _ _ _)) b _ _ _

theorem collect_keepsPhase (s : State) (b : BayIx) (raw gross : Nat) : KeepsPhase s (s.collect b raw gross) := by
  unfold State.collect
  split
  · exact .refl s
  split
  · exact .refl s
  next w _ _ _ =>
  dsimp only
  generalize w.samples ++ [if w.purpose = .zeroCapture then raw else gross] = taken
  split
  · exact .of_view rfl
  split
  · exact .of_view ((finishCapture_view _ b taken).trans rfl)
  · exact judgeSet_keepsPhase s b _ _

theorem watchOverfill_keepsPhase (s : State) (b : BayIx) : KeepsPhase s (s.watchOverfill b) := by
  unfold State.watchOverfill
  split
  · exact endFeed_keepsPhase s b nofun
  · exact .refl s

theorem invalidSample_keepsPhase (s : State) (b : BayIx) : KeepsPhase s (s.invalidSample b) := by
  unfold State.invalidSample
  split
  · exact loseChannel_keepsPhase s b
  · exact .of_view rfl

theorem validSample_keepsPhase (s : State) (b : BayIx) (raw : Nat) : KeepsPhase s (s.validSample b raw) := by
  have range := grossOf_le raw (s.bay b).zero (s.bay b).scale
  have heard (st : ChannelState) (h : st = (s.channel b).state ∧
      ((s.channel b).state = .ok ∨ (s.channel b).validRun < 9) ∨ st = .ok ∧ 9 ≤ (s.channel b).validRun) :=
    (Acts.refl s).act (.channel b { (s.channel b).heard s.now (grossOf raw (s.bay b).zero (s.bay b).scale).1
      (grossOf raw (s.bay b).zero (s.bay b).scale).2 with state := st } (fun w new feedEnd => ⟨w, new, feedEnd⟩)
      (heard_inRange _ _ _ range h))
  have written (c : Channel) : KeepsPhase s (s.setChannel b c) := .of_view rfl
  unfold State.validSample
  dsimp only
  split
  · next ok =>
    have acts := heard _ (.inl ⟨rfl, .inl ok⟩)
    exact ((written _).trans acts (watchOverfill_keepsPhase _ b)).trans (acts.watchOverfill b) (collect_keepsPhase _ b raw _)
  split
  · next ninth =>
    have returned : KeepsPhase s ((s.setChannel b ((s.channel b).heard s.now (grossOf raw (s.bay b).zero (s.bay b).scale).1
        (grossOf raw (s.bay b).zero (s.bay b).scale).2)).returnChannel b) :=
      fun sound h => returnChannel_keepsPhase _ b
        (sound.channel b fun w new feedEnd => ⟨w, new, feedEnd⟩) (h.view rfl)
    exact returned.trans (returnBay_acts b _ (heard _ (.inr ⟨rfl, ninth⟩))) (watchOverfill_keepsPhase _ b)
  · exact written _

theorem takeSample_keepsPhase (b : BayIx) (x : SampleIn) (s : State) : KeepsPhase s (takeSample b x s) := by
  unfold takeSample
  split
  · split
    · exact validSample_keepsPhase s b _
    · exact invalidSample_keepsPhase s b
  · exact invalidSample_keepsPhase s b

/-- The clock moves to the arrival of a deadline. -/
theorem KeepsPhase.after_advance {s t : State} {arrival : Nat} (k : KeepsPhase (s.advance arrival) t) :
    KeepsPhase s t :=
  KeepsPhase.trans (t := s.advance arrival) (.of_view rfl) ((Acts.refl s).advance arrival) k

theorem passSilence_keepsPhase (b : BayIx) (arrival : Nat) (s : State) : KeepsPhase s (passSilence b arrival s) := by
  refine KeepsPhase.after_advance (arrival := arrival) ?_
  unfold passSilence
  dsimp only
  split
  · exact invalidSample_keepsPhase _ b
  · exact .refl _

theorem passSettle_view (b : BayIx) (arrival : Nat) (s : State) : (passSettle b arrival s).phaseView = s.phaseView := by
  unfold passSettle
  dsimp only
  repeat' split
  all_goals rfl

theorem passHold_keepsPhase (b : BayIx) (arrival : Nat) (s : State) : KeepsPhase s (passHold b arrival s) := by
  refine KeepsPhase.after_advance (arrival := arrival) ?_
  unfold passHold
  dsimp only
  split
  · exact .refl _
  split
  · exact endFeed_keepsPhase _ b nofun
  · exact .refl _

theorem passWait_keepsPhase (n : Node) (arrival : Nat) (s : State) : KeepsPhase s (passWait n arrival s) := by
  refine KeepsPhase.after_advance (arrival := arrival) ?_
  unfold passWait
  dsimp only
  split
  · exact .refl _
  next e found =>
  split
  · have left : KeepsPhase (s.advance arrival) ((s.advance arrival).endEntry e .waitExpired) :=
      fun _ h => h.endEntry (List.mem_of_find?_eq_some found) .waitExpired
    exact left.view (alarm_view _ _ _ _)
  · exact .refl _

theorem switchCloses_keepsPhase (b : BayIx) (s : State) : KeepsPhase s (switchCloses b s) := by
  have read : KeepsPhase s (s.setSwitch b true) := .of_view rfl
  unfold switchCloses
  dsimp only
  split
  · next running =>
    exact read.trans ((Acts.refl s).setSwitch b true) fun sound h => h.confirmClose sound running.1
  · exact read

theorem passCloseWatch_keepsPhase (b : BayIx) (arrival : Nat) (s : State) : KeepsPhase s (passCloseWatch b arrival s) := by
  refine KeepsPhase.after_advance (arrival := arrival) ?_
  unfold passCloseWatch
  dsimp only
  split
  · next passed =>
    refine fun sound h => h.expireClose sound fun absent => ?_
    rw [absent] at passed
    exact absurd passed nofun
  · exact .refl _

end Sys2Proof.Machine
end

section
namespace Sys2Proof.Machine

/-! ### The plant line (Chapter 9): only the requests of a taken burst reach feeds, entries and batches -/

theorem takeFrame_keepsPhase (n : Node) (f : ReqFrame) (s : State) : KeepsPhase s (takeFrame n f s) := by
  unfold takeFrame
  split
  · exact takeRequest_keepsPhase _ s
  · exact take_view rfl n f.tag f.kind

theorem takeAll_keepsPhase (n : Node) (fs : List ReqFrame) (s : State) : KeepsPhase s (takeAll n fs s).1 := by
  induction fs generalizing s with
  | nil => exact .refl s
  | cons f rest ih => exact (takeFrame_keepsPhase n f s).trans (takeFrame_acts n f s) (ih _)

theorem discardFrame_view (s : State) (c : Conn) (e : ErrBit) : (s.discardFrame c e).phaseView = s.phaseView := by
  unfold State.discardFrame State.haltBurst
  dsimp only
  split
  · split <;> rfl
  · rfl

theorem keepRequest_view (s : State) (c : Conn) (f : ReqFrame) : (s.keepRequest c f).phaseView = s.phaseView := by
  unfold State.keepRequest
  split
  · exact discardFrame_view s c .burstOver
  split
  · exact discardFrame_view s c .skipped
  · rfl

theorem afterReply_view (s : State) (n : Node) (st : Status) (k : ReqKind) (b : Body) :
    (s.afterReply n st k b).phaseView = s.phaseView := by
  unfold State.afterReply State.moveCursor
  dsimp only
  split <;> rfl

theorem sendSlotReply_view (s : State) (n : Node) : (s.sendSlotReply n).phaseView = s.phaseView := by
  unfold State.sendSlotReply
  split
  · rfl
  · next r _ => exact afterReply_view s n r.status r.kind r.body

theorem sendAnswers_view (n : Node) (answers : List Answer) (s : State) :
    (answers.foldl (fun t a => t.sendAnswer n a) s).phaseView = s.phaseView := by
  induction answers generalizing s with
  | nil => rfl
  | cons a rest ih => exact (ih _).trans (afterReply_view s n a.status a.kind a.body)

theorem composeBurst_view (s : State) (n : Node) (bursts : Nat) (answers : List Answer) :
    (s.composeBurst n bursts answers).phaseView = s.phaseView :=
  (sendAnswers_view n answers _).trans (sendSlotReply_view _ n)

theorem takeTurn_keepsPhase (s : State) (c : Conn) : KeepsPhase s (s.takeTurn c) :=
  (takeAll_keepsPhase c.partner s.pli.buffer s).view (composeBurst_view _ _ _ _)

theorem keepFrame_keepsPhase (s : State) (c : Conn) (f : Kept) : KeepsPhase s (s.keepFrame c f) := by
  have outOfPlace : (s.discardFrame c .outOfPlace).phaseView = s.phaseView := discardFrame_view s c .outOfPlace
  unfold State.keepFrame
  split
  · cases f with
    | request r => exact .of_view (keepRequest_view s c r)
    | ctrl k =>
      cases k with
      | turn => exact takeTurn_keepsPhase s c
      | fill | endFrame => exact .of_view rfl
      | _ => exact .of_view outOfPlace
  · exact .of_view outOfPlace

theorem noteFixed_view (s : State) (corrected : Bool) : (s.noteFixed corrected).phaseView = s.phaseView := by
  unfold State.noteFixed
  split <;> rfl

theorem Sound.noteFixed {s : State} (sound : Sound (GasFree s) s) (corrected : Bool) :
    Sound (GasFree (s.noteFixed corrected)) (s.noteFixed corrected) := by
  unfold State.noteFixed
  split
  · exact ⟨sound.running, sound.bays, sound.owners, sound.nodup, sound.slots, sound.waitGas, sound.feedGas⟩
  · exact sound

theorem receive_keepsPhase (raw : RawFrame) (s : State) : KeepsPhase s (receive raw s) := by
  unfold receive State.takeVerdict
  split
  · next c _ =>
    split
    · next e corrected _ => exact .of_view ((discardFrame_view _ c e).trans (noteFixed_view s corrected))
    · next f corrected _ =>
      exact fun sound h => keepFrame_keepsPhase _ c f (sound.noteFixed corrected) (h.view (noteFixed_view s corrected))
  · exact .refl s

theorem takeEnd_keepsPhase (raw : RawFrame) (s : State) : KeepsPhase s (takeEnd raw s) := by
  unfold takeEnd
  split
  · exact .of_view rfl
  · exact receive_keepsPhase raw s

theorem takeArbitration_view (masters : List (BitVec 4)) (s : State) :
    (takeArbitration masters s).phaseView = s.phaseView := by
  unfold takeArbitration
  repeat' split
  all_goals rfl

theorem takeSelect_keepsPhase (raw : RawFrame) (s : State) : KeepsPhase s (takeSelect raw s) := by
  unfold takeSelect
  split
  · split <;> exact .of_view rfl
  · exact receive_keepsPhase raw s

theorem completeSelection_view (s : State) : (completeSelection s).phaseView = s.phaseView := by
  unfold completeSelection
  split <;> rfl

theorem reselect_view (s : State) : (reselect s).phaseView = s.phaseView := by
  unfold reselect
  repeat' split
  all_goals rfl

theorem deliverReselected_view (s : State) (c : Conn) : (s.deliverReselected c).phaseView = s.phaseView :=
  sendSlotReply_view ((s.setPli { s.pli.dropped .connected with conn := some c }).setPresence c.partner .present) c.partner

theorem takeSelectAck_keepsPhase (raw : RawFrame) (s : State) : KeepsPhase s (takeSelectAck raw s) := by
  unfold takeSelectAck
  split
  · split
    · split
      · exact .of_view (deliverReselected_view s _)
      · exact .refl s
    · split <;> exact .of_view rfl
  · exact receive_keepsPhase raw s

theorem passReselection_view (arrival : Nat) (s : State) : (passReselection arrival s).phaseView = s.phaseView := by
  unfold passReselection
  dsimp only
  repeat' split
  all_goals rfl

theorem passTurn_view (arrival : Nat) (s : State) : (passTurn arrival s).phaseView = s.phaseView := by
  unfold passTurn
  dsimp only
  repeat' split
  all_goals rfl

theorem returnHeld_view (s : State) (c : Conn) : (s.returnHeld c).phaseView = s.phaseView := by
  unfold State.returnHeld
  repeat' split
  all_goals rfl

theorem takeLineReset_view (receiving : Bool) (s : State) : (takeLineReset receiving s).phaseView = s.phaseView := by
  unfold takeLineReset State.abandonLine
  split
  · rfl
  split
  · rfl
  next c _ =>
  refine (returnHeld_view _ c).trans ?_
  split <;> rfl

theorem releaseLine_view (s : State) : (releaseLine s).phaseView = s.phaseView := by
  unfold releaseLine
  split <;> rfl

theorem passIdle_view (arrival : Nat) (s : State) : (passIdle arrival s).phaseView = s.phaseView := by
  unfold passIdle
  dsimp only
  split
  · rfl
  · exact takeLineReset_view false (s.advance arrival)

theorem slotReplySent_view (s : State) : (slotReplySent s).phaseView = s.phaseView := by
  unfold slotReplySent
  split <;> rfl

theorem reportSent_view (s : State) : (reportSent s).phaseView = s.phaseView := by
  unfold reportSent
  split <;> rfl

theorem burstEndSent_view (s : State) : (burstEndSent s).phaseView = s.phaseView := by
  unfold burstEndSent
  repeat' split
  all_goals rfl

/-! ### Inputs, power and time -/

theorem assertReset_view (s : State) : (assertReset s).phaseView = s.phaseView := by
  unfold assertReset
  split <;> rfl

theorem tick_view (s : State) : (tick s).phaseView = s.phaseView := by
  unfold tick State.dropClaim
  dsimp only
  repeat' split
  all_goals rfl

/-! ### Every command, every step -/

/-- A command keeps the lines in phase from a state whose slots and feeds are sound. -/
def SoundlyKeepsPhase (s t : State) : Prop := SlotsOk s → FeedsOk s → Phased s → Phased t

theorem KeepsPhase.soundly {s t : State} (run : s.inReset = false) (k : KeepsPhase s t) : SoundlyKeepsPhase s t :=
  fun slots feeds => k (sound_of_feedsOk run slots feeds)

theorem SoundlyKeepsPhase.of_view {s t : State} (same : t.phaseView = s.phaseView) : SoundlyKeepsPhase s t :=
  fun _ _ h => h.view same

/-- A command acts outside reset alone (R136, R146). -/
theorem live_keepsPhase {act : State → State} {s t : State} (k : KeepsPhase s (act s))
    (e : live act s = .next t) : SoundlyKeepsPhase s t := by
  rw [live_spec] at e
  obtain rfl := Host.Outcome.next.inj e
  split
  · exact .of_view rfl
  · next run => exact k.soundly (by simpa using run)

theorem live_view {act : State → State} {s t : State} (same : (act s).phaseView = s.phaseView)
    (e : live act s = .next t) : SoundlyKeepsPhase s t := live_keepsPhase (.of_view same) e

theorem next_keepsPhase {s t u : State} (k : SoundlyKeepsPhase s u)
    (e : (Host.Outcome.next u : Host.Outcome State Fault Refusal) = .next t) : SoundlyKeepsPhase s t := by
  obtain rfl := Host.Outcome.next.inj e
  exact k

/-- An input acts outside reset, and changes its item alone under reset (R136, R146). -/
theorem input_keepsPhase {s u v : State} (reset : u.phaseView = s.phaseView) (run : KeepsPhase s v) :
    SoundlyKeepsPhase s (if s.inReset then u else v) := by
  split
  · exact .of_view reset
  · next running => exact run.soundly (by simpa using running)

theorem exec_keepsPhase (c : Instr) {s t : State} (e : exec c s = .next t) : SoundlyKeepsPhase s t := by
  have request := takeRequest_keepsPhase c s
  have level (i : Interlock) : ({ s with interlock := i } : State).phaseView = s.phaseView := rfl
  have read (b : BayIx) (closed : Bool) : (s.setSwitch b closed).phaseView = s.phaseView := rfl
  cases c with
  | requestFrameReceived raw => exact live_keepsPhase (receive_keepsPhase raw s) e
  | frameDiscarded raw => exact live_keepsPhase (receive_keepsPhase raw s) e
  | fill raw => exact live_keepsPhase (receive_keepsPhase raw s) e
  | turn raw => exact live_keepsPhase (receive_keepsPhase raw s) e
  | endFrame raw => exact live_keepsPhase (takeEnd_keepsPhase raw s) e
  | select raw => exact live_keepsPhase (takeSelect_keepsPhase raw s) e
  | selectAck raw => exact live_keepsPhase (takeSelectAck_keepsPhase raw s) e
  | selectionComplete => exact live_view (completeSelection_view s) e
  | slotReplyDelivered => exact live_view (slotReplySent_view s) e
  | reportSent => exact live_view (reportSent_view s) e
  | arbitration contenders => exact live_view (takeArbitration_view contenders s) e
  | reselection => exact live_view (reselect_view s) e
  | reselectionTimeout arrival => exact live_view (passReselection_view arrival s) e
  | turnTimeout arrival => exact live_view (passTurn_view arrival s) e
  | lineReset receiving => exact live_view (takeLineReset_view receiving s) e
  | lineResetRelease => exact live_view (releaseLine_view s) e
  | lineIdleTimeout arrival => exact live_view (passIdle_view arrival s) e
  | replyBurstEndSent => exact live_view (burstEndSent_view s) e
  | sample bay x => exact live_keepsPhase (takeSample_keepsPhase bay x s) e
  | silenceDeadline bay arrival => exact live_keepsPhase (passSilence_keepsPhase bay arrival s) e
  | settleDeadline bay arrival => exact live_view (passSettle_view bay arrival s) e
  | holdDeadline bay arrival => exact live_keepsPhase (passHold_keepsPhase bay arrival s) e
  | waitDeadline node arrival => exact live_keepsPhase (passWait_keepsPhase node arrival s) e
  | closeWatchExpiry bay arrival => exact live_keepsPhase (passCloseWatch_keepsPhase bay arrival s) e
  | storeWriteEnd => exact live_view (act := endStoreWrite) rfl e
  | switchClosed bay => exact next_keepsPhase (input_keepsPhase (read bay true) (switchCloses_keepsPhase bay s)) e
  | switchOpen bay => exact next_keepsPhase (.of_view (read bay false)) e
  | estopAssert => exact next_keepsPhase (input_keepsPhase (level _) fun sound h => h.assertEstop sound) e
  | estopRelease => exact next_keepsPhase (.of_view (level _)) e
  | gasNotHealthy => exact next_keepsPhase (input_keepsPhase (level _) fun sound h => h.setInterlock sound _) e
  | gasHealthy => exact next_keepsPhase (input_keepsPhase (level _) fun sound h => h.setInterlock sound _) e
  | resetAssert => exact next_keepsPhase (.of_view (assertReset_view s)) e
  | resetRelease =>
    refine next_keepsPhase ?_ e
    split
    · exact fun _ _ _ => (phaseOk_iff _).mp (startUp_poweredOn _).phaseOk
    · exact .of_view rfl
  | powerOn => exact next_keepsPhase (fun _ _ _ => (phaseOk_iff _).mp (startUp_poweredOn s).phaseOk) e
  | calibrate n tag bay zeroAt scale =>
    refine live_keepsPhase ?_ e
    split
    · exact take_view (ownZeroCapture_view s bay scale) n tag _
    · exact request
  | _ => exact live_keepsPhase request e

/-- Settles O60: a batch becomes OPEN with the grant of a feed for it and WAITING_FEED with the entry that waits for it,
and leaves the state in the step that ends the feed or takes the entry away. -/
theorem batchesStayInPhase : Obligations.BatchesStayInPhase := by
  intro s t slots feeds phase e
  rw [phaseOk_iff] at phase ⊢
  unfold step at e
  split at e
  · exact next_keepsPhase (.of_view (tick_view s)) e slots feeds phase
  · next rest _ =>
    have taken : Phased { s with pending := rest } := phase.view rfl
    exact exec_keepsPhase _ e slots feeds taken

end Sys2Proof.Machine
end

section
namespace Sys2Proof.Machine

/-! ## Changes of the interlock items without a permit drop (R136, R137, R140, R144) -/

theorem permitOn_iff (s : State) : s.permitOn = true ↔ s.interlock.flag = true ∧ s.interlock.healthy = true :=
  Bool.and_eq_true_iff

theorem not_permitOn {s : State} (off : s.interlock.flag = false ∨ s.interlock.healthy = false) : ¬s.permitOn = true := by
  obtain off | off := off <;> simp [permitOn_iff, off]

/-- Items that leave the permit on where it was on change alone (R136, R140). -/
theorem setInterlock_quiet {s : State} {i : Interlock} (stays : s.permitOn = true → i.flag = true ∧ i.healthy = true) :
    s.setInterlock i = { s with interlock := i } := by
  have after := permitOn_iff { s with interlock := i }
  refine if_neg fun drop => ?_
  obtain ⟨before, off⟩ := Bool.and_eq_true_iff.mp drop
  simp [after.mpr (stays before)] at off

/-- PERMIT without a drop answers the four items as they then stand (R137). -/
theorem ownPermit_quiet {s : State} {value : Nat} (known : value ≤ 1)
    (stays : s.permitOn = true → (value == 1) = true ∧ s.interlock.healthy = true) :
    ownPermit value s =
      { state := { s with interlock := { s.interlock with flag := value == 1 } }, status := .ok,
        body := .interlock ((value == 1) && s.interlock.healthy) (value == 1) s.interlock.healthy s.interlock.estop } := by
  have written := setInterlock_quiet (i := { s.interlock with flag := value == 1 }) stays
  refine (if_neg (Nat.not_lt.mpr known)).trans ?_
  rw [written]
  rfl

/-- Settles O44: without a drop each item is written alone, and PERMIT answers what then stands. -/
theorem permitRisesQuietly : Obligations.PermitRisesQuietly := by
  intro s n tag value run
  have gas (healthy : Bool) (stays : s.permitOn = true → healthy = true) :
      (if s.inReset then s.healthyLevel healthy else s.setInterlock { s.interlock with healthy := healthy })
        = { s with interlock := { s.interlock with healthy := healthy } } :=
    (if_neg (by simp [run])).trans (setInterlock_quiet fun on => ⟨((permitOn_iff s).mp on).1, stays on⟩)
  refine ⟨congrArg _ (gas true fun _ => rfl), fun off => congrArg _ (gas false fun on => absurd on (not_permitOn off)),
    fun role => ?_⟩
  have asks : permitted .permit (roleOf n) = true := by rw [role]; rfl
  refine ⟨fun unknown => ?_, ?_, fun off => ?_⟩
  · exact live_take run asks (r := refuse s .badArgument) (if_pos unknown)
  · exact live_take run asks (ownPermit_quiet le_rfl fun on => ⟨rfl, ((permitOn_iff s).mp on).2⟩)
  · exact live_take run asks (ownPermit_quiet zero_le_one fun on => absurd on (not_permitOn off))

/-- Settles O43: the release writes the level of the E-stop and looks at nothing (R144). -/
theorem estopReleaseChangesOnlyItem : Obligations.EstopReleaseChangesOnlyItem := fun _ => rfl

end Sys2Proof.Machine
end

section
namespace Sys2Proof.Machine

/-! ## The queue and the clock (log 1, log 2)

A command leaves the queue as it is, and only the passing of a deadline moves the clock: to the arrival, and never back. -/

/-- The queue and the clock. -/
def State.timing (s : State) : List Instr × Nat := (s.pending, s.now)

theorem SameBase.timing {s t : State} (h : SameBase s t) : t.timing = s.timing := by
  obtain ⟨now, pending, -⟩ := h
  exact Prod.ext pending now

/-- A fold of operations that leave the queue and the clock leaves them. -/
theorem timing_foldl {α : Type} {f : State → α → State} (h : ∀ t x, (f t x).timing = t.timing) (xs : List α) (s : State) :
    (xs.foldl f s).timing = s.timing := by
  induction xs generalizing s with
  | nil => rfl
  | cons x rest ih => exact (ih (f s x)).trans (h s x)

/-! ### Requests (Chapters 1, 2, 4, 5, 7, 8 and 10) -/

theorem enterService_timing (s : State) (b : BayIx) : (s.enterService b).timing = s.timing := (enterService_base s b).timing

theorem endFeed_timing (s : State) (b : BayIx) (c : EndCause) : (s.endFeed b c).timing = s.timing :=
  (endFeed_base s b c).timing

theorem completeBatch_timing (s : State) (l : FoamLine) : (s.completeBatch l).timing = s.timing :=
  (completeBatch_base s l).timing

theorem askFeed_timing (s : State) (n : Node) (tag : Nat) (k : ReqKind) (g : GasClass) (w : WaitPurpose) :
    (s.askFeed n tag k g w).state.timing = s.timing := by
  obtain ⟨e, -⟩ | ⟨b, -, e, -⟩ | ⟨e, -⟩ := askFeed_cases s n tag k g w <;> rw [e]
  · exact (grant_base s b n w g).timing
  · rfl

theorem askForBatch_timing (s : State) (n : Node) (tag : Nat) (k : ReqKind) (l : FoamLine) (bt : Batch) :
    (askForBatch s n tag k l bt).state.timing = s.timing := by
  have asked := askFeed_timing s n tag k bt.cls (.batch l bt.number)
  unfold askForBatch
  dsimp only
  split
  · exact asked
  · exact asked

theorem ownFeedOpen_timing (s : State) (n : Node) (tag : Nat) : (ownFeedOpen n tag s).state.timing = s.timing := by
  unfold ownFeedOpen
  split
  · rfl
  split
  · rfl
  split
  · rfl
  split
  · rfl
  · exact askFeed_timing s n tag _ _ _

theorem endedAnswer_timing (s : State) (n : Node) : (endedAnswer s n).state.timing = s.timing := by
  unfold endedAnswer
  split <;> rfl

theorem storeEstimate_timing (s : State) (b : BayIx) (f : Feed) : (s.storeEstimate b f).timing = s.timing := by
  unfold State.storeEstimate
  dsimp only
  split <;> rfl

theorem ownFeedProgress_timing (s : State) (n : Node) (flow : Nat) : (ownFeedProgress n flow s).state.timing = s.timing := by
  unfold ownFeedProgress
  split
  · exact endedAnswer_timing s n
  dsimp only
  split
  · exact (endedAnswer_timing _ n).trans ((endFeed_timing _ _ _).trans (storeEstimate_timing s _ _))
  · exact storeEstimate_timing s _ _

theorem ownFeedClose_timing (s : State) (n : Node) (tag flow : Nat) :
    (ownFeedClose n tag flow s).state.timing = s.timing := by
  unfold ownFeedClose
  split
  · split
    · rfl
    · exact endedAnswer_timing s n
  next b f _ =>
  have closed := (endFeed_timing _ b .closed).trans (storeEstimate_timing s b { f with estimate := 10 * flow })
  dsimp only
  split
  · exact closed
  split
  · exact closed
  · rfl

theorem ownFeedCancel_timing (s : State) (n : Node) : (ownFeedCancel n s).state.timing = s.timing := by
  unfold ownFeedCancel
  split
  · rfl
  · exact (endEntry_base s _ _).timing

theorem ownFoamOpen_timing (s : State) (n : Node) (tag cls : Nat) : (ownFoamOpen n tag cls s).state.timing = s.timing := by
  unfold ownFoamOpen
  split
  · rfl
  · rfl
  split
  · rfl
  split
  · rfl
  split
  · rfl
  · exact askForBatch_timing _ n tag _ _ _

theorem ownFoamResume_timing (s : State) (n : Node) (tag : Nat) : (ownFoamResume n tag s).state.timing = s.timing := by
  unfold ownFoamResume
  split
  · rfl
  split
  · rfl
  split
  · rfl
  split
  · rfl
  split
  · rfl
  split
  · rfl
  · exact askForBatch_timing s n tag _ _ _

theorem closeStalled_timing (s : State) (n : Node) (tag : Nat) (l : FoamLine) (bt : Batch) :
    (closeStalled n tag l bt s).state.timing = s.timing := by
  unfold closeStalled
  split
  · exact completeBatch_timing s l
  split <;> rfl

theorem closeOpen_timing (s : State) (n : Node) (tag : Nat) (l : FoamLine) (b : BayIx) :
    (closeOpen n tag l b s).state.timing = s.timing := by
  have closed := endFeed_timing (s.modCurrent l (fun x => { x with state := .closing })) b .closed
  unfold closeOpen
  dsimp only
  split
  · exact closed
  split
  · exact closed
  · rfl

theorem ownFoamClose_timing (s : State) (n : Node) (tag : Nat) : (ownFoamClose n tag s).state.timing = s.timing := by
  unfold ownFoamClose
  split
  · rfl
  split
  · rfl
  next l _ _ bt _ =>
  split
  · rfl
  · rfl
  · exact closeStalled_timing s n tag l bt
  · split
    · exact (closeStalled_timing _ n tag l bt).trans (endEntry_base s _ _).timing
    · exact closeStalled_timing s n tag l bt
  · split
    · exact closeOpen_timing s n tag l _
    · exact closeStalled_timing s n tag l bt

theorem ownVesselMount_timing (s : State) (bay vid cls capacity tare : Nat) :
    (ownVesselMount bay vid cls capacity tare s).state.timing = s.timing := by
  unfold ownVesselMount
  split
  · split
    · rfl
    split
    · rfl
    split
    · rfl
    split
    · rfl
    · exact enterService_timing _ _
  · rfl

theorem ownCalibrate_timing (s : State) (bay zeroAt scale : Nat) :
    (ownCalibrate bay zeroAt scale s).state.timing = s.timing := by
  unfold ownCalibrate
  split
  · rfl
  split
  · rfl
  split
  · rfl
  split
  · rfl
  dsimp only
  split
  · rfl
  · exact enterService_timing _ _

theorem ownClearFault_timing (s : State) (bay : Nat) : (ownClearFault bay s).state.timing = s.timing := by
  unfold ownClearFault
  split
  · rfl
  split
  · rfl
  · exact enterService_timing s _

theorem reviewBay_timing (s : State) (b : BayIx) : (s.reviewBay b).timing = s.timing := by
  rw [reviewBay_eq]
  rfl

theorem ownSetParam_timing (s : State) (id value : Nat) : (ownSetParam id value s).state.timing = s.timing := by
  unfold ownSetParam
  split
  · rfl
  unfold appliedAnswer State.applyParam
  dsimp only
  split
  · exact (timing_foldl (fun t b => (scan_base t b).timing) _ _).trans (timing_foldl reviewBay_timing _ _)
  · rfl

theorem dropPermit_timing (s : State) : s.dropPermit.timing = s.timing :=
  (((endFeeds_base s flammable .interlock).trans (purge_base _ (fun e => flammable e.cls) .permitOff)).trans
    (alarm_base _ .permitDropped none 0)).timing

theorem setInterlock_timing (s : State) (i : Interlock) : (s.setInterlock i).timing = s.timing := by
  unfold State.setInterlock
  dsimp only
  split
  · exact dropPermit_timing _
  · rfl

theorem ownPermit_timing (s : State) (value : Nat) : (ownPermit value s).state.timing = s.timing := by
  unfold ownPermit
  split
  · rfl
  · exact setInterlock_timing s _

/-! #### Requests that write a record, or none -/

theorem ownLinkStats_timing (s : State) (n : Node) (addr : Nat) : (ownLinkStats n addr s).state.timing = s.timing := by
  unfold ownLinkStats
  repeat' split
  all_goals rfl

theorem ownSetDigest_timing (s : State) (n : Node) (items : List (Nat × Nat)) :
    (ownSetDigest n items s).state.timing = s.timing := by
  unfold ownSetDigest
  split <;> rfl

theorem ownAlarmRead_timing (s : State) (group : Nat) : (ownAlarmRead group s).state.timing = s.timing := by
  unfold ownAlarmRead
  split <;> rfl

theorem ownSetExpect_timing (s : State) (category cls grams : Nat) :
    (ownSetExpect category cls grams s).state.timing = s.timing := by
  unfold ownSetExpect
  split <;> rfl

theorem ownAnnounce_timing (s : State) (unit category refr charge foam : Nat) :
    (ownAnnounce unit category refr charge foam s).state.timing = s.timing := by
  unfold ownAnnounce
  repeat' split
  all_goals rfl

theorem ownDegasBegin_timing (s : State) (n : Node) (unit cls : Nat) :
    (ownDegasBegin n unit cls s).state.timing = s.timing := by
  unfold ownDegasBegin
  dsimp only
  repeat' split
  all_goals rfl

theorem ownDegasEnd_timing (s : State) (n : Node) (outcome : Nat) :
    (ownDegasEnd n outcome s).state.timing = s.timing := by
  unfold ownDegasEnd endComplete
  dsimp only
  repeat' split
  all_goals rfl

theorem ownCabinetAdmit_timing (s : State) (n : Node) (unit cls : Nat) :
    (ownCabinetAdmit n unit cls s).state.timing = s.timing := by
  unfold ownCabinetAdmit
  dsimp only
  repeat' split
  all_goals rfl

theorem ownUnitRelease_timing (s : State) (unit : Nat) : (ownUnitRelease unit s).state.timing = s.timing := by
  unfold ownUnitRelease
  repeat' split
  all_goals rfl

theorem ownVesselRetire_timing (s : State) (bay : Nat) : (ownVesselRetire bay s).state.timing = s.timing := by
  unfold ownVesselRetire
  repeat' split
  all_goals rfl

theorem ownZeroCapture_timing (s : State) (bay scale : Nat) : (ownZeroCapture bay scale s).state.timing = s.timing := by
  unfold ownZeroCapture
  repeat' split
  all_goals rfl

/-! #### Taking a request (R151, R167) -/

theorem take_timing {act : State → Taken} {s : State} (same : (act s).state.timing = s.timing) (n : Node) (tag : Nat)
    (k : ReqKind) : (take n tag k act s).timing = s.timing := by
  unfold take
  dsimp only
  split
  · exact same
  · rfl

theorem takeRequest_timing (i : Instr) (s : State) : (takeRequest i s).timing = s.timing := by
  have stands {t : Taken} (h : t.state = s) : t.state.timing = s.timing := congrArg State.timing h
  cases i with
  | feedOpen n t => exact take_timing (ownFeedOpen_timing s n t) n t _
  | feedProgress n t flow => exact take_timing (ownFeedProgress_timing s n flow) n t _
  | feedClose n t flow => exact take_timing (ownFeedClose_timing s n t flow) n t _
  | feedCancel n t => exact take_timing (ownFeedCancel_timing s n) n t _
  | foamOpen n t cls => exact take_timing (ownFoamOpen_timing s n t cls) n t _
  | foamResume n t => exact take_timing (ownFoamResume_timing s n t) n t _
  | foamClose n t => exact take_timing (ownFoamClose_timing s n t) n t _
  | cabinetAdmit n t unit cls => exact take_timing (ownCabinetAdmit_timing s n unit cls) n t _
  | vesselMount n t bay vid cls capacity tare => exact take_timing (ownVesselMount_timing s bay vid cls capacity tare) n t _
  | setParam n t id value => exact take_timing (ownSetParam_timing s id value) n t _
  | permit n t value => exact take_timing (ownPermit_timing s value) n t _
  | calibrate n t bay zeroAt scale => exact take_timing (ownCalibrate_timing s bay zeroAt scale) n t _
  | vesselClearFault n t bay => exact take_timing (ownClearFault_timing s bay) n t _
  | replyLimit n t bytes => exact take_timing rfl n t _
  | linkOptions n t options => exact take_timing rfl n t _
  | feedOutcome n t => exact take_timing (stands (ownFeedOutcome_state s n)) n t _
  | batchQuery n t line slot => exact take_timing (stands (ownBatchQuery_state s line slot)) n t _
  | unitQuery n t unit => exact take_timing (stands (ownUnitQuery_state s unit)) n t _
  | vesselQuery n t bay => exact take_timing (stands (ownVesselQuery_state s bay)) n t _
  | linkStats n t addr => exact take_timing (ownLinkStats_timing s n addr) n t _
  | setDigest n t items => exact take_timing (ownSetDigest_timing s n items) n t _
  | alarmRead n t group => exact take_timing (ownAlarmRead_timing s group) n t _
  | setExpect n t category cls grams => exact take_timing (ownSetExpect_timing s category cls grams) n t _
  | announce n t unit category refr charge foam =>
    exact take_timing (ownAnnounce_timing s unit category refr charge foam) n t _
  | degasBegin n t unit cls => exact take_timing (ownDegasBegin_timing s n unit cls) n t _
  | degasEnd n t outcome => exact take_timing (ownDegasEnd_timing s n outcome) n t _
  | unitRelease n t unit => exact take_timing (ownUnitRelease_timing s unit) n t _
  | vesselRetire n t bay => exact take_timing (ownVesselRetire_timing s bay) n t _
  | calibrateZeroCapture n t bay scale => exact take_timing (ownZeroCapture_timing s bay scale) n t _
  | _ => rfl

theorem takeFrame_timing (n : Node) (f : ReqFrame) (s : State) : (takeFrame n f s).timing = s.timing := by
  unfold takeFrame
  split
  · exact takeRequest_timing _ s
  · exact take_timing rfl n f.tag f.kind

theorem takeAll_timing (n : Node) (fs : List ReqFrame) (s : State) : (takeAll n fs s).1.timing = s.timing := by
  induction fs generalizing s with
  | nil => rfl
  | cons f rest ih => exact (ih _).trans (takeFrame_timing n f s)

end Sys2Proof.Machine
end

section
namespace Sys2Proof.Machine

/-! ### Samples and switches (Chapters 2 and 3) -/

theorem dropCapture_timing (s : State) (b : BayIx) : (s.dropCapture b).timing = s.timing := by
  unfold State.dropCapture
  split
  · split <;> rfl
  · rfl

theorem handLoss_timing (s : State) (b : BayIx) : (s.handLoss b).timing = s.timing := by
  unfold State.handLoss
  split
  · rfl
  · rfl
  · split <;> rfl
  · exact ((bookByEstimate_base s b).trans (leaveClosing_base _ b)).timing
  · rfl

theorem invalidSample_timing (s : State) (b : BayIx) : (s.invalidSample b).timing = s.timing := by
  unfold State.invalidSample
  split
  · exact (handLoss_timing _ b).trans (dropCapture_timing _ b)
  · rfl

theorem returnChannel_timing (s : State) (b : BayIx) : (s.returnChannel b).timing = s.timing := by
  unfold State.returnChannel
  dsimp only
  split
  · exact enterService_timing _ b
  · split <;> rfl
  · rfl

theorem finishCapture_timing (s : State) (b : BayIx) (codes : List Nat) : (s.finishCapture b codes).timing = s.timing := by
  unfold State.finishCapture
  split
  · split <;> rfl
  · rfl

theorem deliverReading_timing (s : State) (b : BayIx) (p : WindowPurpose) (gross : Nat) (unstable : Bool) :
    (s.deliverReading b p gross unstable).timing = s.timing := by
  cases p with
  | baseline => exact (deliverBaseline_base s b gross).timing
  | feedEnd => exact (deliverFeedEnd_base s b gross unstable).timing
  | zeroCapture => rfl

theorem judgeSet_timing (s : State) (b : BayIx) (w : Window) (xs : List Nat) : (s.judgeSet b w xs).timing = s.timing := by
  unfold State.judgeSet
  dsimp only
  split
  · exact deliverReading_timing _ b w.purpose _ _
  split
  · rfl
  · exact deliverReading_timing _ b w.purpose _ _

theorem collect_timing (s : State) (b : BayIx) (raw gross : Nat) : (s.collect b raw gross).timing = s.timing := by
  unfold State.collect
  split
  · rfl
  split
  · rfl
  next w _ _ _ =>
  dsimp only
  generalize w.samples ++ [if w.purpose = .zeroCapture then raw else gross] = taken
  split
  · rfl
  split
  · exact finishCapture_timing _ b _
  · exact judgeSet_timing s b _ _

theorem watchOverfill_timing (s : State) (b : BayIx) : (s.watchOverfill b).timing = s.timing := by
  unfold State.watchOverfill
  split
  · exact endFeed_timing s b .full
  · rfl

theorem validSample_timing (s : State) (b : BayIx) (raw : Nat) : (s.validSample b raw).timing = s.timing := by
  unfold State.validSample
  dsimp only
  split
  · exact (collect_timing _ b raw _).trans (watchOverfill_timing _ b)
  split
  · exact (watchOverfill_timing _ b).trans (returnChannel_timing _ b)
  · rfl

theorem takeSample_timing (b : BayIx) (x : SampleIn) (s : State) : (takeSample b x s).timing = s.timing := by
  unfold takeSample
  split
  · split
    · exact validSample_timing s b _
    · exact invalidSample_timing s b
  · exact invalidSample_timing s b

theorem switchCloses_timing (b : BayIx) (s : State) : (switchCloses b s).timing = s.timing := by
  unfold switchCloses State.confirmClose
  dsimp only
  split
  · split
    · rfl
    split
    · exact (leaveClosing_base _ b).timing
    split <;> rfl
  · rfl

/-! ### The plant line (Chapter 9) -/

theorem discardFrame_timing (s : State) (c : Conn) (e : ErrBit) : (s.discardFrame c e).timing = s.timing := by
  unfold State.discardFrame State.haltBurst
  dsimp only
  split
  · split <;> rfl
  · rfl

theorem keepRequest_timing (s : State) (c : Conn) (f : ReqFrame) : (s.keepRequest c f).timing = s.timing := by
  unfold State.keepRequest
  split
  · exact discardFrame_timing s c .burstOver
  split
  · exact discardFrame_timing s c .skipped
  · rfl

theorem afterReply_timing (s : State) (n : Node) (st : Status) (k : ReqKind) (b : Body) :
    (s.afterReply n st k b).timing = s.timing := by
  unfold State.afterReply State.moveCursor
  dsimp only
  split <;> rfl

theorem sendSlotReply_timing (s : State) (n : Node) : (s.sendSlotReply n).timing = s.timing := by
  unfold State.sendSlotReply
  split
  · rfl
  · next r _ => exact afterReply_timing s n r.status r.kind r.body

theorem sendAnswer_timing (n : Node) (s : State) (a : Answer) : (s.sendAnswer n a).timing = s.timing :=
  afterReply_timing s n a.status a.kind a.body

theorem composeBurst_timing (s : State) (n : Node) (bursts : Nat) (answers : List Answer) :
    (s.composeBurst n bursts answers).timing = s.timing :=
  (timing_foldl (f := fun t a => t.sendAnswer n a) (sendAnswer_timing n) answers _).trans (sendSlotReply_timing _ n)

theorem takeTurn_timing (s : State) (c : Conn) : (s.takeTurn c).timing = s.timing :=
  (composeBurst_timing _ c.partner c.bursts _).trans (takeAll_timing c.partner s.pli.buffer s)

theorem keepFrame_timing (s : State) (c : Conn) (f : Kept) : (s.keepFrame c f).timing = s.timing := by
  have outOfPlace := discardFrame_timing s c .outOfPlace
  unfold State.keepFrame
  split
  · cases f with
    | request r => exact keepRequest_timing s c r
    | ctrl k =>
      cases k with
      | turn => exact takeTurn_timing s c
      | fill | endFrame => rfl
      | _ => exact outOfPlace
  · exact outOfPlace

theorem noteFixed_timing (s : State) (corrected : Bool) : (s.noteFixed corrected).timing = s.timing := by
  unfold State.noteFixed
  split <;> rfl

theorem receive_timing (raw : RawFrame) (s : State) : (receive raw s).timing = s.timing := by
  unfold receive State.takeVerdict
  split
  · next c _ =>
    split
    · next e corrected _ => exact (discardFrame_timing _ c e).trans (noteFixed_timing s corrected)
    · next f corrected _ => exact (keepFrame_timing _ c f).trans (noteFixed_timing s corrected)
  · rfl

theorem takeEnd_timing (raw : RawFrame) (s : State) : (takeEnd raw s).timing = s.timing := by
  unfold takeEnd
  split
  · rfl
  · exact receive_timing raw s

theorem takeArbitration_timing (masters : List (BitVec 4)) (s : State) :
    (takeArbitration masters s).timing = s.timing := by
  unfold takeArbitration
  repeat' split
  all_goals rfl

theorem takeSelect_timing (raw : RawFrame) (s : State) : (takeSelect raw s).timing = s.timing := by
  unfold takeSelect
  split
  · split <;> rfl
  · exact receive_timing raw s

theorem completeSelection_timing (s : State) : (completeSelection s).timing = s.timing := by
  unfold completeSelection
  split <;> rfl

theorem reselect_timing (s : State) : (reselect s).timing = s.timing := by
  unfold reselect
  repeat' split
  all_goals rfl

theorem deliverReselected_timing (s : State) (c : Conn) : (s.deliverReselected c).timing = s.timing :=
  sendSlotReply_timing ((s.setPli { s.pli.dropped .connected with conn := some c }).setPresence c.partner .present) c.partner

theorem takeSelectAck_timing (raw : RawFrame) (s : State) : (takeSelectAck raw s).timing = s.timing := by
  unfold takeSelectAck
  split
  · split
    · split
      · exact deliverReselected_timing s _
      · rfl
    · split <;> rfl
  · exact receive_timing raw s

theorem returnHeld_timing (s : State) (c : Conn) : (s.returnHeld c).timing = s.timing := by
  unfold State.returnHeld
  repeat' split
  all_goals rfl

theorem takeLineReset_timing (receiving : Bool) (s : State) : (takeLineReset receiving s).timing = s.timing := by
  unfold takeLineReset State.abandonLine
  split
  · rfl
  split
  · rfl
  · next c _ =>
    refine (returnHeld_timing _ c).trans ?_
    split <;> rfl

theorem releaseLine_timing (s : State) : (releaseLine s).timing = s.timing := by
  unfold releaseLine
  split <;> rfl

theorem slotReplySent_timing (s : State) : (slotReplySent s).timing = s.timing := by
  unfold slotReplySent
  split <;> rfl

theorem reportSent_timing (s : State) : (reportSent s).timing = s.timing := by
  unfold reportSent
  split <;> rfl

theorem burstEndSent_timing (s : State) : (burstEndSent s).timing = s.timing := by
  unfold burstEndSent
  repeat' split
  all_goals rfl

/-! ### Deadlines: the clock at the arrival (log 2) -/

section

variable (arrival : Nat) (s : State)

theorem passSilence_timing (b : BayIx) : (passSilence b arrival s).timing = (s.advance arrival).timing := by
  unfold passSilence
  dsimp only
  split
  · exact invalidSample_timing _ b
  · rfl

theorem passSettle_timing (b : BayIx) : (passSettle b arrival s).timing = (s.advance arrival).timing := by
  unfold passSettle
  dsimp only
  repeat' split
  all_goals rfl

theorem passHold_timing (b : BayIx) : (passHold b arrival s).timing = (s.advance arrival).timing := by
  unfold passHold
  dsimp only
  split
  · rfl
  split
  · exact endFeed_timing _ b .abandoned
  · rfl

theorem passWait_timing (n : Node) : (passWait n arrival s).timing = (s.advance arrival).timing := by
  unfold passWait
  dsimp only
  split
  · rfl
  split
  · exact (endEntry_base (s.advance arrival) _ .waitExpired).timing
  · rfl

theorem passCloseWatch_timing (b : BayIx) : (passCloseWatch b arrival s).timing = (s.advance arrival).timing := by
  unfold passCloseWatch
  dsimp only
  split
  · exact (bookByEstimate_base _ b).timing
  · rfl

theorem passReselection_timing : (passReselection arrival s).timing = (s.advance arrival).timing := by
  unfold passReselection
  dsimp only
  repeat' split
  all_goals rfl

theorem passTurn_timing : (passTurn arrival s).timing = (s.advance arrival).timing := by
  unfold passTurn
  dsimp only
  repeat' split
  all_goals rfl

theorem passIdle_timing : (passIdle arrival s).timing = (s.advance arrival).timing := by
  unfold passIdle
  dsimp only
  split
  · rfl
  · exact takeLineReset_timing false (s.advance arrival)

end

/-! ### Inputs and power (Chapter 8, R146) -/

theorem assertEstop_timing (s : State) : (assertEstop s).timing = s.timing := by
  unfold assertEstop
  split
  · rfl
  · exact (((endFeeds_base _ (fun _ => true) .estop).trans (purge_base _ (fun _ => true) .estop)).trans
      (alarm_base _ .estopOn none 0)).timing

theorem assertReset_timing (s : State) : (assertReset s).timing = s.timing := by
  unfold assertReset
  split <;> rfl

theorem startUp_timing (s : State) : (startUp s).timing = s.timing := by
  obtain ⟨a, started, -⟩ := startUp_spec s
  rw [started]
  rfl

/-! ### Every command -/

/-- From `s` to `t` the queue stands, and the clock has not gone back. -/
structure Proceeds (s t : State) : Prop where
  pending : t.pending = s.pending
  clock : s.now ≤ t.now

theorem Proceeds.at_once {s t : State} (same : t.timing = s.timing) : Proceeds s t := by
  obtain ⟨pending, now⟩ := Prod.ext_iff.mp same
  exact ⟨pending, now.ge⟩

theorem Proceeds.at_arrival {s t : State} {arrival : Nat} (same : t.timing = (s.advance arrival).timing) :
    Proceeds s t := by
  obtain ⟨pending, now⟩ := Prod.ext_iff.mp same
  exact ⟨pending, (le_max_left s.now arrival).trans now.ge⟩

/-- A command that is no input is at rest under reset, and acts in the course of time (R146; log 17). -/
theorem exec_live (c : Instr) (own : isInput c = false) :
    ∃ act : State → State, exec c = live act ∧ ∀ s, Proceeds s (act s) := by
  have request (s : State) : Proceeds s (takeRequest c s) := .at_once (takeRequest_timing c s)
  cases c with
  | switchClosed | switchOpen | estopAssert | estopRelease | gasNotHealthy | gasHealthy | resetAssert | resetRelease
  | powerOn => exact absurd own nofun
  | requestFrameReceived raw | frameDiscarded raw | fill raw | turn raw =>
    exact ⟨_, rfl, fun s => .at_once (receive_timing raw s)⟩
  | endFrame raw => exact ⟨_, rfl, fun s => .at_once (takeEnd_timing raw s)⟩
  | select raw => exact ⟨_, rfl, fun s => .at_once (takeSelect_timing raw s)⟩
  | selectAck raw => exact ⟨_, rfl, fun s => .at_once (takeSelectAck_timing raw s)⟩
  | selectionComplete => exact ⟨_, rfl, fun s => .at_once (completeSelection_timing s)⟩
  | slotReplyDelivered => exact ⟨_, rfl, fun s => .at_once (slotReplySent_timing s)⟩
  | reportSent => exact ⟨_, rfl, fun s => .at_once (reportSent_timing s)⟩
  | replyBurstEndSent => exact ⟨_, rfl, fun s => .at_once (burstEndSent_timing s)⟩
  | arbitration contenders => exact ⟨_, rfl, fun s => .at_once (takeArbitration_timing contenders s)⟩
  | reselection => exact ⟨_, rfl, fun s => .at_once (reselect_timing s)⟩
  | reselectionTimeout arrival => exact ⟨_, rfl, fun s => .at_arrival (passReselection_timing arrival s)⟩
  | turnTimeout arrival => exact ⟨_, rfl, fun s => .at_arrival (passTurn_timing arrival s)⟩
  | lineReset receiving => exact ⟨_, rfl, fun s => .at_once (takeLineReset_timing receiving s)⟩
  | lineResetRelease => exact ⟨_, rfl, fun s => .at_once (releaseLine_timing s)⟩
  | lineIdleTimeout arrival => exact ⟨_, rfl, fun s => .at_arrival (passIdle_timing arrival s)⟩
  | sample b x => exact ⟨_, rfl, fun s => .at_once (takeSample_timing b x s)⟩
  | silenceDeadline b arrival => exact ⟨_, rfl, fun s => .at_arrival (passSilence_timing arrival s b)⟩
  | settleDeadline b arrival => exact ⟨_, rfl, fun s => .at_arrival (passSettle_timing arrival s b)⟩
  | holdDeadline b arrival => exact ⟨_, rfl, fun s => .at_arrival (passHold_timing arrival s b)⟩
  | waitDeadline n arrival => exact ⟨_, rfl, fun s => .at_arrival (passWait_timing arrival s n)⟩
  | closeWatchExpiry b arrival => exact ⟨_, rfl, fun s => .at_arrival (passCloseWatch_timing arrival s b)⟩
  | storeWriteEnd => exact ⟨endStoreWrite, rfl, fun _ => .at_once rfl⟩
  | calibrate n tag bay zeroAt scale =>
    refine ⟨_, rfl, fun s => .at_once ?_⟩
    split
    · exact take_timing (ownZeroCapture_timing s bay scale) n tag _
    · exact take_timing (ownCalibrate_timing s bay zeroAt scale) n tag _
  | _ => exact ⟨_, rfl, request⟩

/-- An input acts at once (R136, R146). -/
theorem exec_input (c : Instr) (s : State) (input : isInput c = true) : ∃ t, exec c s = .next t ∧ t.timing = s.timing := by
  have level {u v : State} (reset : u.timing = s.timing) (run : v.timing = s.timing) :
      (if s.inReset then u else v).timing = s.timing := by
    split
    · exact reset
    · exact run
  cases c with
  | switchClosed b => exact ⟨_, rfl, level rfl (switchCloses_timing b s)⟩
  | switchOpen b => exact ⟨_, rfl, rfl⟩
  | estopAssert => exact ⟨_, rfl, level rfl (assertEstop_timing s)⟩
  | estopRelease => exact ⟨_, rfl, rfl⟩
  | gasNotHealthy | gasHealthy => exact ⟨_, rfl, level rfl (setInterlock_timing s _)⟩
  | resetAssert => exact ⟨_, rfl, assertReset_timing s⟩
  | resetRelease => exact ⟨_, rfl, level (startUp_timing { s with inReset := false }) rfl⟩
  | powerOn => exact ⟨_, rfl, startUp_timing s⟩
  | _ => exact absurd input nofun

/-- Settles O3: an input answers what it does at once; any other command what it does outside reset, and under reset the
state it finds. -/
theorem noCommandStops : Obligations.NoCommandStops := by
  intro s c
  cases kind : isInput c with
  | true =>
    obtain ⟨t, answer, same⟩ := exec_input c s kind
    have proceeds := Proceeds.at_once same
    exact ⟨⟨t, answer, proceeds.pending, proceeds.clock⟩, fun _ own => absurd own nofun⟩
  | false =>
    obtain ⟨act, acts, proceeds⟩ := exec_live c kind
    rw [acts, live_spec]
    refine ⟨⟨_, rfl, ?_⟩, fun held _ => by rw [if_pos held]⟩
    split
    · exact ⟨rfl, le_rfl⟩
    · exact ⟨(proceeds s).pending, (proceeds s).clock⟩

end Sys2Proof.Machine
end

section
namespace Sys2Proof.Machine

/-! ## The header check as a linear code (R159) -/

theorem foldl_xor_map (xs : List Nat) (f g : Nat → Bool) (a b : Bool) :
    xs.foldl (fun z i => z ^^ (f i ^^ g i)) (a ^^ b) =
      (xs.foldl (fun z i => z ^^ f i) a ^^ xs.foldl (fun z i => z ^^ g i) b) := by
  induction xs generalizing a b with
  | nil => rfl
  | cons i rest ih =>
    simp only [List.foldl_cons]
    rw [← ih, show ((a ^^ b) ^^ (f i ^^ g i)) = ((a ^^ f i) ^^ (b ^^ g i)) by
      simp only [Bool.xor_assoc, Bool.xor_left_comm b]]

theorem parity_xor {w : Nat} (x y : BitVec w) : parity (x ^^^ y) = (parity x ^^ parity y) := by
  simpa [parity] using foldl_xor_map (List.range w) x.getLsbD y.getLsbD false false

theorem posXor_xor (d e : BitVec 40) (ps : List Nat) (i : Nat) :
    posXor (d ^^^ e) ps i = posXor d ps i ^^^ posXor e ps i := by
  induction ps generalizing i with
  | nil => simp [posXor]
  | cons p rest ih =>
    have flips (a b : Bool) : (if (a ^^ b) = true then BitVec.ofNat 6 p else 0)
        = (if a = true then BitVec.ofNat 6 p else 0) ^^^ (if b = true then BitVec.ofNat 6 p else 0) := by
      cases a <;> cases b <;> simp
    simp only [posXor, ih, BitVec.getLsbD_xor, flips]
    ac_rfl

theorem checkBits_xor (d e : BitVec 40) : checkBits (d ^^^ e) = checkBits d ^^^ checkBits e := posXor_xor d e _ _

/-- The syndrome of an error pattern over header and byte 5: the exclusive or of the positions it flips (R159). -/
def flawSyndrome (e : BitVec 48) : BitVec 6 := checkBits (e.extractLsb' 8 40) ^^^ e.extractLsb' 1 6

/-- Whether an error pattern flips an odd number of the 47 bits of the code (R159). -/
def flawParity (e : BitVec 48) : Bool := parity (e.extractLsb' 8 40) ^^ parity (e.extractLsb' 1 7)

theorem flawSyndrome_xor (e f : BitVec 48) : flawSyndrome (e ^^^ f) = flawSyndrome e ^^^ flawSyndrome f := by
  simp only [flawSyndrome, BitVec.extractLsb'_xor, checkBits_xor]
  ac_rfl

theorem flawParity_xor (e f : BitVec 48) : flawParity (e ^^^ f) = (flawParity e ^^ flawParity f) := by
  rw [flawParity, BitVec.extractLsb'_xor, BitVec.extractLsb'_xor, parity_xor, parity_xor]
  simp only [flawParity, Bool.xor_assoc, Bool.xor_left_comm (parity (f.extractLsb' 8 40))]

/-- What a position of the code word flips in the data (R159). -/
def positionMask (p : Nat) : BitVec 40 := flipPosition 0 p

theorem flipPosition_eq (d : BitVec 40) (p : Nat) : flipPosition d p = d ^^^ positionMask p := by
  unfold positionMask flipPosition
  cases dataPositions.idxOf? p <;> simp

/-- Byte 5 carries the check bits, an even overall parity, and a 0 (R159). -/
theorem headerCheck_parts (d : BitVec 40) :
    (headerCheck d).extractLsb' 1 6 = checkBits d ∧ parity ((headerCheck d).extractLsb' 1 7) = parity d ∧
      (headerCheck d).getLsbD 0 = false := by
  have parts : ∀ (even : Bool) (c : BitVec 6),
      (BitVec.ofBool (even ^^ parity c) ++ c ++ (0 : BitVec 1)).extractLsb' 1 6 = c ∧
        parity ((BitVec.ofBool (even ^^ parity c) ++ c ++ (0 : BitVec 1)).extractLsb' 1 7) = even ∧
        (BitVec.ofBool (even ^^ parity c) ++ c ++ (0 : BitVec 1)).getLsbD 0 = false := by decide +kernel
  exact parts (parity d) (checkBits d)

/-- A header as sent has neither syndrome nor odd parity, and its last bit is 0 (R159). -/
theorem flaw_sent (d : BitVec 40) :
    flawSyndrome (d ++ headerCheck d) = 0 ∧ flawParity (d ++ headerCheck d) = false ∧
      (d ++ headerCheck d).getLsbD 0 = false := by
  obtain ⟨bits, even, low⟩ := headerCheck_parts d
  have data : (d ++ headerCheck d).extractLsb' 8 40 = d := BitVec.extractLsb'_append_eq_left
  have within (k n : Nat) (h : k + n ≤ 8) : (d ++ headerCheck d).extractLsb' k n = (headerCheck d).extractLsb' k n :=
    BitVec.extractLsb'_append_eq_of_add_le h
  refine ⟨?_, ?_, ?_⟩
  · rw [flawSyndrome, data, within 1 6 (by omega), bits, BitVec.xor_self]
    rfl
  · rw [flawParity, data, within 1 7 (by omega), even, Bool.xor_self]
  · rw [BitVec.getLsbD_append]
    simpa using low

/-- The receiver's table of R159: the decision by syndrome, parity and last bit, on the data received. -/
def judgeHeader (data : BitVec 40) (syndrome : BitVec 6) (odd low : Bool) : HeaderResult :=
  if syndrome = 0 then
    if odd then (if low then .bad else .corrected data) else (if low then .corrected data else .correct data)
  else if odd && !low && decide (syndrome.toNat ≤ 46) then .corrected (data ^^^ positionMask syndrome.toNat)
  else .bad

theorem decodeHeader_received (w : BitVec 48) : decodeHeader (w.extractLsb' 8 40) (w.extractLsb' 0 8) =
    judgeHeader (w.extractLsb' 8 40) (flawSyndrome w) (flawParity w) (w.getLsbD 0) := by
  have within (k n : Nat) (h : k + n ≤ 8) : (w.extractLsb' 0 8).extractLsb' k n = w.extractLsb' k n := by
    ext j hj
    simp
    omega
  have last : (w.extractLsb' 0 8).getLsbD 0 = w.getLsbD 0 := by simp
  unfold decodeHeader judgeHeader
  rw [within 1 6 (by omega), within 1 7 (by omega), last, ← flipPosition_eq]
  rfl

/-- Each bit of header and byte 5 but the last has a place of its own among the positions 0 to 46 (0 the overall
parity), and flips the overall parity; flipping its position mends the data (R159). -/
theorem flaw_single : ∀ i : Fin 48,
    flawParity (BitVec.twoPow 48 i) = (i != 0) ∧ (BitVec.twoPow 48 i.val).getLsbD 0 = (i == 0) ∧
      (flawSyndrome (BitVec.twoPow 48 i)).toNat ≤ 46 ∧
      (BitVec.twoPow 48 i.val).extractLsb' 8 40 = positionMask (flawSyndrome (BitVec.twoPow 48 i)).toNat := by
  decide +kernel

theorem flawSyndrome_injOn : ∀ i j : Fin 48, i ≠ 0 → j ≠ 0 →
    flawSyndrome (BitVec.twoPow 48 i) = flawSyndrome (BitVec.twoPow 48 j) → i = j := by
  decide +kernel

/-- A header as sent is correct (R159). -/
theorem decodeHeader_sent (d : BitVec 40) : decodeHeader d (headerCheck d) = .correct d := by
  obtain ⟨syndrome, even, low⟩ := flaw_sent d
  have data : (d ++ headerCheck d).extractLsb' 8 40 = d := BitVec.extractLsb'_append_eq_left
  have check : (d ++ headerCheck d).extractLsb' 0 8 = headerCheck d := BitVec.extractLsb'_append_eq_right
  have received := decodeHeader_received (d ++ headerCheck d)
  rwa [data, check, syndrome, even, low] at received

/-- A header that arrives with an error pattern is judged by the pattern alone (R159). -/
theorem decodeHeader_flawed (d : BitVec 40) (e : BitVec 48) :
    decodeHeader (((d ++ headerCheck d) ^^^ e).extractLsb' 8 40) (((d ++ headerCheck d) ^^^ e).extractLsb' 0 8) =
      judgeHeader (d ^^^ e.extractLsb' 8 40) (flawSyndrome e) (flawParity e) (e.getLsbD 0) := by
  obtain ⟨syndrome, even, low⟩ := flaw_sent d
  have data : (d ++ headerCheck d).extractLsb' 8 40 = d := BitVec.extractLsb'_append_eq_left
  have none : (0 : BitVec 6) ^^^ flawSyndrome e = flawSyndrome e := BitVec.zero_xor
  rw [decodeHeader_received, flawSyndrome_xor, flawParity_xor, BitVec.getLsbD_xor, BitVec.extractLsb'_xor, data,
    syndrome, even, low, Bool.false_xor, Bool.false_xor, none]

/-- No syndrome stands for no flipped position (R159). -/
theorem positionMask_zero : positionMask 0 = 0 := by decide +kernel

/-- The last bit stands outside the code (R159). -/
theorem flawSyndrome_last : flawSyndrome (BitVec.twoPow 48 0) = 0 := by decide +kernel

/-- One flipped bit is mended: the last bit and the overall parity leave the data as sent, any other has the syndrome of
its position (R159). -/
theorem decodeHeader_one_flaw (d : BitVec 40) (i : Fin 48) :
    decodeHeader (((d ++ headerCheck d) ^^^ BitVec.twoPow 48 i.val).extractLsb' 8 40)
      (((d ++ headerCheck d) ^^^ BitVec.twoPow 48 i.val).extractLsb' 0 8) = .corrected d := by
  obtain ⟨odd, low, place, mask⟩ := flaw_single i
  have mended : d ^^^ (BitVec.twoPow 48 i.val).extractLsb' 8 40
      ^^^ positionMask (flawSyndrome (BitVec.twoPow 48 i)).toNat = d := by
    rw [← mask, BitVec.xor_assoc, BitVec.xor_self, BitVec.xor_zero]
  have untouched (none : flawSyndrome (BitVec.twoPow 48 i) = 0) :
      d ^^^ (BitVec.twoPow 48 i.val).extractLsb' 8 40 = d := by
    rw [mask, none]
    exact (congrArg (d ^^^ ·) positionMask_zero).trans BitVec.xor_zero
  rw [decodeHeader_flawed, judgeHeader, mended, odd, low, decide_eq_true place]
  by_cases last : i = 0
  · subst last
    rw [untouched flawSyndrome_last]
    exact if_pos flawSyndrome_last
  · have flips : (i != 0) = true := bne_iff_ne.mpr last
    have stands : (i == 0) = false := beq_false_of_ne last
    rw [flips, stands]
    split
    · next none => rw [untouched none]; rfl
    · rfl

/-- Two flipped bits are detected: they leave the parity even with a syndrome, or one of them is the last bit and the
parity odd (R159). -/
theorem decodeHeader_two_flaws (d : BitVec 40) {i j : Fin 48} (two : i ≠ j) :
    decodeHeader (((d ++ headerCheck d) ^^^ (BitVec.twoPow 48 i.val ^^^ BitVec.twoPow 48 j.val)).extractLsb' 8 40)
      (((d ++ headerCheck d) ^^^ (BitVec.twoPow 48 i.val ^^^ BitVec.twoPow 48 j.val)).extractLsb' 0 8) = .bad := by
  obtain ⟨odd_i, low_i, -⟩ := flaw_single i
  obtain ⟨odd_j, low_j, -⟩ := flaw_single j
  have odd : flawParity (BitVec.twoPow 48 i.val ^^^ BitVec.twoPow 48 j.val) = ((i != 0) ^^ (j != 0)) := by
    rw [flawParity_xor, odd_i, odd_j]
  have low : (BitVec.twoPow 48 i.val ^^^ BitVec.twoPow 48 j.val).getLsbD 0 = ((i == 0) ^^ (j == 0)) := by
    rw [BitVec.getLsbD_xor, low_i, low_j]
  rw [decodeHeader_flawed, judgeHeader, odd, low]
  by_cases first : i = 0
  · have second : j ≠ 0 := fun e => two (first.trans e.symm)
    simp [first, second]
  · by_cases second : j = 0
    · simp [first, second]
    · have distinct : flawSyndrome (BitVec.twoPow 48 i.val ^^^ BitVec.twoPow 48 j.val) ≠ 0 := by
        rw [flawSyndrome_xor]
        exact fun same => two (flawSyndrome_injOn i j first second (BitVec.xor_eq_zero_iff.mp same))
      rw [if_neg distinct, bne_iff_ne.mpr first, bne_iff_ne.mpr second]
      rfl

/-- Settles O54: the receiver's decision is a function of the error pattern, which is read off for no, one and two
flipped bits. -/
theorem headerCodeCorrects : Obligations.HeaderCodeCorrects := by
  intro d i j sent received
  have data : sent.extractLsb' 8 40 = d := BitVec.extractLsb'_append_eq_left
  have check : sent.extractLsb' 0 8 = headerCheck d := BitVec.extractLsb'_append_eq_right
  refine ⟨?_, decodeHeader_one_flaw d i, fun two => ?_⟩
  · simp only [received, data, check, decodeHeader_sent]
  · have detected := decodeHeader_two_flaws d two
    rwa [← BitVec.xor_assoc] at detected

end Sys2Proof.Machine
end

section
namespace Sys2Proof.Machine

/-! ## Reading a header (R158, R162) -/

theorem readHeader_short {raw : RawFrame} (h : raw.length < 6) : readHeader raw = .truncated := by
  unfold readHeader
  split
  · simp only [List.length_cons] at h
    omega
  · rfl

theorem readHeader_long {raw : RawFrame} (h : 6 ≤ raw.length) : readHeader raw ≠ .truncated := by
  match raw, h with
  | b0 :: b1 :: b2 :: b3 :: b4 :: b5 :: rest, _ =>
    simp only [readHeader]
    split <;> exact HeaderRead.noConfusion

/-- A header that is all there and fails its check (R149, R158). -/
theorem readHeader_bad {raw : RawFrame} (h : 6 ≤ raw.length) (fails : headerOf raw = none) : readHeader raw = .bad := by
  cases read : readHeader raw with
  | truncated => exact absurd read (readHeader_long h)
  | bad => rfl
  | read d corrected rest => simp [headerOf, read] at fails

/-! ## Kind bytes (R162, R163) -/

theorem ctrlOfCode_eq_some {n : Nat} {k : CtrlKind} (h : ctrlOfCode n = some k) : n = ctrlCode k := by
  unfold ctrlOfCode at h
  split at h <;> cases h <;> rfl

theorem reqOfCode_reqCode (k : ReqKind) : reqOfCode (reqCode k) = some k := by cases k <;> rfl

theorem reqOfCode_ctrlCode (k : CtrlKind) : reqOfCode (ctrlCode k) = none := by cases k <;> rfl

/-- A request kind is short, below 0x40, or long, up to 0x7F (R162). -/
theorem reqCode_range (k : ReqKind) : 1 ≤ reqCode k ∧ reqCode k < 0x80 := by cases k <;> decide

/-! ## The checks of a received frame, in their order (R158) -/

/-- Checks 7 and 8 on a frame that names no kind, whose addresses fail, or that passes (R158). -/
theorem checkKindAndAddress_unknown {n : Node} {h : Header} (p : List Byte) (corrected : Bool)
    (req : reqOfCode h.kind = none) (ctrl : ctrlOfCode h.kind = none) :
    checkKindAndAddress n h p corrected = .discard .kindUnknown corrected := by
  rw [checkKindAndAddress, req, ctrl]

theorem checkKindAndAddress_stray {n : Node} {h : Header} (p : List Byte) (corrected : Bool)
    (known : reqOfCode h.kind ≠ none ∨ ctrlOfCode h.kind ≠ none) (stray : h.sender ≠ nodeAddr n ∨ h.receiver ≠ 0) :
    checkKindAndAddress n h p corrected = .discard .addressBad corrected := by
  have off : (h.sender == nodeAddr n && h.receiver == 0) = false := by
    simpa [imp_iff_not_or] using stray
  rw [checkKindAndAddress, off]
  cases req : reqOfCode h.kind with
  | some k => rfl
  | none =>
    cases ctrl : ctrlOfCode h.kind with
    | some k => rfl
    | none => simp [req, ctrl] at known

theorem checkKindAndAddress_request {n : Node} {h : Header} (p : List Byte) (corrected : Bool) {k : ReqKind}
    (req : reqOfCode h.kind = some k) (sender : h.sender = nodeAddr n) (receiver : h.receiver = 0) :
    checkKindAndAddress n h p corrected =
      .keep (.request { kind := k, tag := h.tag, arg := h.arg, payload := p }) corrected := by
  simp [checkKindAndAddress, req, sender, receiver]

theorem checkKindAndAddress_ctrl {n : Node} {h : Header} (p : List Byte) (corrected : Bool) {k : CtrlKind}
    (ctrl : ctrlOfCode h.kind = some k) (sender : h.sender = nodeAddr n) (receiver : h.receiver = 0) :
    checkKindAndAddress n h p corrected = .keep (.ctrl k) corrected := by
  have req : reqOfCode h.kind = none := ctrlOfCode_eq_some ctrl ▸ reqOfCode_ctrlCode k
  simp [checkKindAndAddress, req, ctrl, sender, receiver]

section Checks
variable {n : Node} {raw : RawFrame} {d : BitVec 40} {corrected : Bool} {rest : List Byte}

/-- The CRC of a long frame agrees (R160). -/
abbrev CrcFits (d : BitVec 40) (rest : List Byte) : Prop :=
  crcBytes (crc16 (headerBytesOf d ++ rest.take (headerFields d).arg)) = (rest.drop (headerFields d).arg).take 2

/-- A frame whose form is whole: of a short kind, or of a long one with its length, payload and CRC (R158). -/
def FormWhole (d : BitVec 40) (rest : List Byte) : Prop :=
  (1 ≤ (headerFields d).kind ∧ (headerFields d).kind < 0x40) ∨
    ((0x40 ≤ (headerFields d).kind ∧ (headerFields d).kind < 0x80) ∧ 1 ≤ (headerFields d).arg ∧
      (headerFields d).arg ≤ 512 ∧ (headerFields d).arg + 2 ≤ rest.length ∧ CrcFits d rest)

/-- The payload of a whole frame; a short frame has none (R162). -/
def framePayload (d : BitVec 40) (rest : List Byte) : List Byte :=
  if (headerFields d).kind < 0x40 then [] else rest.take (headerFields d).arg

theorem checkFrame_kindRange (read : readHeader raw = .read d corrected rest)
    (range : (headerFields d).kind = 0 ∨ 0x80 ≤ (headerFields d).kind) :
    checkFrame n raw = .discard .kindUnknown corrected := by
  simp only [checkFrame, read, ge_iff_le, if_pos range]

/-- Behind the header check a long frame meets length, whole form and CRC, and then its kind and addresses (R158). -/
theorem checkFrame_long (read : readHeader raw = .read d corrected rest) (low : 0x40 ≤ (headerFields d).kind)
    (high : (headerFields d).kind < 0x80) : checkFrame n raw =
      if (headerFields d).arg = 0 ∨ (headerFields d).arg > 512 then .discard .lengthBad corrected
      else if rest.length < (headerFields d).arg + 2 then .discard .truncated corrected
      else if ¬ CrcFits d rest then .discard .crcBad corrected
      else checkKindAndAddress n (headerFields d) (rest.take (headerFields d).arg) corrected := by
  have inside : ¬((headerFields d).kind = 0 ∨ (headerFields d).kind ≥ 0x80) := by omega
  simp only [checkFrame, read, if_neg inside, if_neg (Nat.not_lt.mpr low)]

theorem checkFrame_whole (read : readHeader raw = .read d corrected rest) (whole : FormWhole d rest) :
    checkFrame n raw = checkKindAndAddress n (headerFields d) (framePayload d rest) corrected := by
  obtain ⟨named, short⟩ | ⟨⟨low, high⟩, some, few, there, fits⟩ := whole
  · have inside : ¬((headerFields d).kind = 0 ∨ (headerFields d).kind ≥ 0x80) := by omega
    simp only [checkFrame, read, if_neg inside, framePayload, if_pos short]
  · rw [checkFrame_long read low high, if_neg (by omega), if_neg (by omega), if_neg (not_not_intro fits), framePayload,
      if_neg (by omega)]

end Checks

/-- Settles O47, tier 1: the checks one after another, for the raw bytes and for a header that was read. -/
theorem frameChecksInOrder : Obligations.FrameChecksInOrder := by
  intro n raw
  refine ⟨fun short => ?_, fun long fails => ?_, fun d corrected rest read => ?_⟩
  · rw [checkFrame, readHeader_short short]
  · rw [checkFrame, readHeader_bad long fails]
  dsimp only
  refine ⟨checkFrame_kindRange read, fun ⟨low, high⟩ length => ?_, fun ⟨low, high⟩ some few cut => ?_,
    fun ⟨low, high⟩ some few there differs => ?_, fun form req ctrl => ?_, fun form known stray => ?_,
    fun form sender receiver => ⟨fun k ctrl => ?_, fun k req => ?_⟩⟩
  · rw [checkFrame_long read low high, if_pos length]
  · rw [checkFrame_long read low high, if_neg (by omega), if_pos cut]
  · rw [checkFrame_long read low high, if_neg (by omega), if_neg (Nat.not_lt.mpr there), if_pos differs]
  · rw [checkFrame_whole read form, checkKindAndAddress_unknown _ _ req ctrl]
  · rw [checkFrame_whole read form, checkKindAndAddress_stray _ _ known stray]
  · rw [checkFrame_whole read form, checkKindAndAddress_ctrl _ _ ctrl sender receiver]
  · rw [checkFrame_whole read form, checkKindAndAddress_request _ _ req sender receiver]
    rfl

end Sys2Proof.Machine
end

section
namespace Sys2Proof.Machine

/-! ## Fields of a payload (00_scope.md, Conventions) -/

@[simp] theorem length_beBytes (k n : Nat) : (beBytes k n).length = k := by
  induction k with
  | zero => rfl
  | succ k ih => simp [beBytes, ih]

theorem foldl_beBytes (k n a : Nat) :
    (beBytes k n).foldl (fun a b => 256 * a + b.toNat) a = a * 256 ^ k + n % 256 ^ k := by
  induction k generalizing a with
  | zero => simp [beBytes, Nat.mod_one]
  | succ k ih =>
    rw [beBytes, List.foldl_cons, ih, BitVec.toNat_ofNat, show 2 ^ 8 = 256 from rfl, Nat.mod_pow_succ]
    generalize n / 256 ^ k % 256 = digit
    ring

/-- The bytes of a number that fits spell it. -/
theorem beNat_beBytes {k n : Nat} (fits : n < 256 ^ k) : beNat (beBytes k n) = n := by
  rw [beNat, foldl_beBytes, Nat.zero_mul, Nat.zero_add, Nat.mod_eq_of_lt fits]

theorem payloadField_first {k n : Nat} (fits : n < 256 ^ k) (q : List Byte) :
    payloadField (beBytes k n ++ q) 0 k = n := by
  rw [payloadField, List.drop_zero, List.take_left' (length_beBytes k n), beNat_beBytes fits]

theorem payloadField_only {k n : Nat} (fits : n < 256 ^ k) : payloadField (beBytes k n) 0 k = n := by
  simpa using payloadField_first fits []

theorem payloadField_later {k off : Nat} (n : Nat) (behind : k ≤ off) (q : List Byte) (len : Nat) :
    payloadField (beBytes k n ++ q) off len = payloadField q (off - k) len := by
  rw [payloadField, payloadField, List.drop_append, length_beBytes, List.drop_eq_nil_of_le, List.nil_append]
  rwa [length_beBytes]

/-- The bytes of digest items stand for those items (R163). -/
theorem digestItems_flatMap {items : List (Nat × Nat)} (fit : ∀ i ∈ items, i.1 < 256 ∧ i.2 < 256) :
    digestItems (items.flatMap (fun i => beBytes 1 i.1 ++ beBytes 1 i.2)) = items := by
  induction items with
  | nil => rfl
  | cons i rest ih =>
    obtain ⟨⟨selector, index⟩, others⟩ := List.forall_mem_cons.mp fit
    have own : ((BitVec.ofNat 8 (i.1 / 256 ^ 0)).toNat, (BitVec.ofNat 8 (i.2 / 256 ^ 0)).toNat) = i := by
      simp [Nat.mod_eq_of_lt selector, Nat.mod_eq_of_lt index]
    exact congrArg₂ List.cons own (ih others)

theorem length_digestBytes (items : List (Nat × Nat)) :
    (items.flatMap (fun i => beBytes 1 i.1 ++ beBytes 1 i.2)).length = 2 * items.length := by
  induction items with
  | nil => rfl
  | cons i rest ih => simp [ih]; omega

/-! ## A frame as sent passes the checks (R158, R160, R162) -/

/-- The fields of a header lie in their widths (R162). -/
def Header.Fits (h : Header) : Prop := h.kind < 256 ∧ h.sender < 16 ∧ h.receiver < 16 ∧ h.tag < 256 ∧ h.arg < 65536

theorem headerFields_headerBits {h : Header} (fits : h.Fits) : headerFields (headerBits h) = h := by
  obtain ⟨kind, sender, receiver, tag, arg⟩ := fits
  have fields (a : BitVec 8) (b c : BitVec 4) (d : BitVec 8) (e : BitVec 16) :
      headerFields (a ++ b ++ c ++ d ++ e) =
        { kind := a.toNat, sender := b.toNat, receiver := c.toNat, tag := d.toNat, arg := e.toNat } := by
    simp (disch := decide) only [headerFields, BitVec.extractLsb'_append_eq_of_le, BitVec.extractLsb'_append_eq_right,
      BitVec.extractLsb'_eq_self, Nat.reduceSub]
  rw [headerBits, fields]
  simp only [BitVec.toNat_ofNat, Nat.mod_eq_of_lt, kind, sender, receiver, tag, arg, Nat.reducePow]

/-- The bytes of a header as sent are read as its data, uncorrected (R159). -/
theorem readHeader_headerBytesOf (d : BitVec 40) (rest : List Byte) :
    readHeader (headerBytesOf d ++ rest) = .read d false rest := by
  have whole : d.extractLsb' 32 8 ++ d.extractLsb' 24 8 ++ d.extractLsb' 16 8 ++ d.extractLsb' 8 8 ++ d.extractLsb' 0 8
      = d := by
    have join {hi lo m n : Nat} (meet : hi = lo + n) :
        d.extractLsb' hi m ++ d.extractLsb' lo n = d.extractLsb' lo (m + n) :=
      BitVec.extractLsb'_append_extractLsb'_eq_extractLsb' meet
    rw [join (by decide), join (by decide), join (by decide), join (by decide)]
    exact BitVec.extractLsb'_eq_self
  simp only [readHeader, headerBytesOf, List.cons_append, List.nil_append]
  rw [whole, decodeHeader_sent]

/-- A request frame that a master can send: its tag and argument in their widths, and a payload of 1 to 512 bytes
exactly in a long frame, whose argument is its length (R162, R163). -/
def ReqFrame.Sendable (f : ReqFrame) : Prop :=
  f.tag < 256 ∧ ((reqCode f.kind < 0x40 ∧ f.arg < 65536 ∧ f.payload = []) ∨
    (0x40 ≤ reqCode f.kind ∧ f.arg = f.payload.length ∧ 1 ≤ f.payload.length ∧ f.payload.length ≤ 512))

theorem checkFrame_bytes (n : Node) {f : ReqFrame} (ok : f.Sendable) :
    checkFrame n (f.bytes n) = .keep (.request f) false := by
  obtain ⟨tag, form⟩ := ok
  have known := reqCode_range f.kind
  have from_n : nodeAddr n < 16 := by unfold nodeAddr; omega
  let h : Header := { kind := reqCode f.kind, sender := nodeAddr n, receiver := 0, tag := f.tag, arg := f.arg }
  have arg : f.arg < 65536 := by omega
  have fields : headerFields (headerBits h) = h := headerFields_headerBits
    ⟨(by omega : reqCode f.kind < 256), from_n, (by decide : 0 < 16), tag, arg⟩
  obtain ⟨short, -, bare⟩ | ⟨long, length, some, few⟩ := form
  · have bytes : f.bytes n = headerBytesOf (headerBits h) ++ [] := by
      rw [ReqFrame.bytes, if_pos short, List.append_nil]
      rfl
    have whole : FormWhole (headerBits h) [] := .inl (by rw [fields]; exact ⟨known.1, short⟩)
    have none : framePayload (headerBits h) [] = f.payload := by
      rw [framePayload, fields, if_pos short, bare]
    rw [bytes, checkFrame_whole (readHeader_headerBytesOf _ _) whole, none, fields]
    exact checkKindAndAddress_request _ _ (reqOfCode_reqCode f.kind) rfl rfl
  · have bytes : f.bytes n = headerBytesOf (headerBits h)
        ++ (f.payload ++ crcBytes (crc16 (headerBytesOf (headerBits h) ++ f.payload))) := by
      rw [ReqFrame.bytes, if_neg (Nat.not_lt.mpr long), ← length, longBytes, List.append_assoc]
      rfl
    generalize crc : crc16 (headerBytesOf (headerBits h) ++ f.payload) = c at bytes
    have kept : (f.payload ++ crcBytes c).take f.arg = f.payload := List.take_left' length.symm
    have sent : (f.payload ++ crcBytes c).drop f.arg = crcBytes c := List.drop_left' length.symm
    have whole : FormWhole (headerBits h) (f.payload ++ crcBytes c) := by
      refine .inr ?_
      unfold CrcFits
      rw [fields]
      refine ⟨⟨long, known.2⟩, some.trans_eq length.symm, length.trans_le few, ?_, ?_⟩
      · simp [h, length, crcBytes]
      · rw [kept, sent, crc]
        rfl
    have payload : framePayload (headerBits h) (f.payload ++ crcBytes c) = f.payload := by
      rw [framePayload, fields, if_neg (Nat.not_lt.mpr long), kept]
    rw [bytes, checkFrame_whole (readHeader_headerBytesOf _ _) whole, payload, fields]
    exact checkKindAndAddress_request _ _ (reqOfCode_reqCode f.kind) rfl rfl

/-! ## A request command and its frame (R163) -/

/-- What a request command's frame is: one that can be sent, and that stands for the command and no other (R163). -/
def CarriedBy (c : Instr) (p : Node × ReqFrame) : Prop := p.2.Sendable ∧ requestOf p.1 p.2 = some c

theorem shortFrame_sendable {k : ReqKind} (short : reqCode k < 0x40) {t x : Nat} (tag : t < 256) (arg : x < 65536) :
    ({ kind := k, tag := t, arg := x, payload := [] } : ReqFrame).Sendable := ⟨tag, .inl ⟨short, arg, rfl⟩⟩

theorem longFrame_sendable {k : ReqKind} (long : 0x40 ≤ reqCode k) {t : Nat} (tag : t < 256) {p : List Byte}
    (some : 1 ≤ p.length) (few : p.length ≤ 512) :
    ({ kind := k, tag := t, arg := p.length, payload := p } : ReqFrame).Sendable := ⟨tag, .inr ⟨long, rfl, some, few⟩⟩

@[simp] theorem fits8_iff (n : Nat) : fits8 n = true ↔ n < 256 := decide_eq_true_iff
@[simp] theorem fits16_iff (n : Nat) : fits16 n = true ↔ n < 65536 := decide_eq_true_iff
@[simp] theorem fits32_iff (n : Nat) : fits32 n = true ↔ n < 4294967296 := decide_eq_true_iff

/-- A field is read behind those before it (R163). -/
theorem frameOf_carries {c : Instr} (wf : c.wf = true) {p : Node × ReqFrame} (frame : frameOf c = some p) :
    CarriedBy c p := by
  cases c with
  | feedOpen n t | feedCancel n t | feedOutcome n t | foamResume n t | foamClose n t =>
    obtain rfl := Option.some.inj frame
    exact ⟨shortFrame_sendable (by decide) (of_decide_eq_true wf) (by decide), rfl⟩
  | replyLimit n t x | linkStats n t x | feedProgress n t x | feedClose n t x | degasEnd n t x | foamOpen n t x
  | vesselQuery n t x | alarmRead n t x | permit n t x | vesselRetire n t x | vesselClearFault n t x
  | linkOptions n t x =>
    obtain rfl := Option.some.inj frame
    obtain ⟨tag, arg⟩ := Bool.and_eq_true_iff.mp wf
    exact ⟨shortFrame_sendable (by decide) (of_decide_eq_true tag) (of_decide_eq_true arg), rfl⟩
  | batchQuery n t line slot =>
    obtain rfl := Option.some.inj frame
    simp only [Instr.wf, fits8, Bool.and_eq_true, decide_eq_true_eq] at wf
    obtain ⟨⟨tag, line_fits⟩, slot_fits⟩ := wf
    refine ⟨shortFrame_sendable (by decide) tag (by omega), ?_⟩
    have high : (256 * line + slot) / 256 = line := by omega
    have low : (256 * line + slot) % 256 = slot := by omega
    simp only [requestOf, high, low]
    rfl
  | announce n t _ _ _ _ _ | degasBegin n t _ _ | cabinetAdmit n t _ _ | unitQuery n t _ | unitRelease n t _
  | vesselMount n t _ _ _ _ _ | calibrateZeroCapture n t _ _ | setParam n t _ _ | setExpect n t _ _ _ =>
    obtain rfl := Option.some.inj frame
    simp only [Instr.wf, Bool.and_eq_true, fits8_iff, fits16_iff, fits32_iff] at wf
    refine ⟨longFrame_sendable (by decide) (by simp only [wf]) (by simp) (by simp), ?_⟩
    simp [requestOf, payloadLengthOk, payloadField_first, payloadField_later, payloadField_only, wf]
  | calibrate n t bay zeroAt scale =>
    obtain rfl := Option.some.inj frame
    simp only [Instr.wf, Bool.and_eq_true, fits8_iff, fits16_iff, decide_eq_true_eq] at wf
    obtain ⟨⟨⟨tag, bay_fits⟩, direct⟩, scale_fits⟩ := wf
    have zero_fits : zeroAt < 16777216 := direct.trans (by decide)
    refine ⟨longFrame_sendable (by decide) tag (by simp) (by simp), ?_⟩
    simp [requestOf, payloadLengthOk, payloadField_first, payloadField_later, payloadField_only, bay_fits, zero_fits,
      scale_fits, direct.ne]
  | setDigest n t items =>
    obtain rfl := Option.some.inj frame
    simp only [Instr.wf, Bool.and_eq_true, fits8_iff, List.all_eq_true] at wf
    obtain ⟨⟨tag, count⟩, fit⟩ := wf
    refine ⟨longFrame_sendable (by decide) tag (by simp) ?_, ?_⟩
    · rw [List.length_append, length_beBytes, length_digestBytes]
      omega
    · have named : payloadField (beBytes 1 items.length ++ items.flatMap (fun i => beBytes 1 i.1 ++ beBytes 1 i.2)) 0 1
          = items.length := payloadField_first count _
      have ok : payloadLengthOk .setDigest
          (beBytes 1 items.length ++ items.flatMap (fun i => beBytes 1 i.1 ++ beBytes 1 i.2)) = true := by
        rw [payloadLengthOk, named, List.length_append, length_beBytes, length_digestBytes]
        simp
      have rest : (beBytes 1 items.length ++ items.flatMap (fun i => beBytes 1 i.1 ++ beBytes 1 i.2)).drop 1
          = items.flatMap (fun i => beBytes 1 i.1 ++ beBytes 1 i.2) := List.drop_left' (length_beBytes 1 _)
      simp only [requestOf, ok, rest, digestItems_flatMap fit]
      rfl
  | _ => exact absurd frame nofun
/-- Outside reset a request command is the taking of its request (R151; log 1). -/
theorem exec_request {c : Instr} (wf : c.wf = true) {p : Node × ReqFrame} (frame : frameOf c = some p) {s : State}
    (run : s.inReset = false) : exec c s = .next (takeRequest c s) := by
  cases c with
  | calibrate n t bay zeroAt scale =>
    simp only [Instr.wf, Bool.and_eq_true, decide_eq_true_eq] at wf
    obtain ⟨⟨-, direct⟩, -⟩ := wf
    rw [exec, execCalibrate, live_running _ s run, if_neg direct.ne]
    rfl
  | replyLimit | linkStats | feedOpen | feedProgress | feedClose | feedCancel | feedOutcome | degasEnd | foamOpen
  | foamResume | foamClose | batchQuery | vesselQuery | alarmRead | permit | vesselRetire | vesselClearFault
  | linkOptions | announce | degasBegin | cabinetAdmit | unitQuery | unitRelease | vesselMount | calibrateZeroCapture
  | setParam | setExpect | setDigest => exact live_running _ s run
  | _ => exact absurd frame nofun

/-- Settles O55: the frame of a request can be sent, a frame that can be sent passes the checks, and its taking is the
taking of the request it stands for. -/
theorem requestFramesRoundTrip : Obligations.RequestFramesRoundTrip := by
  intro c wf p frame
  obtain ⟨sendable, stands⟩ := frameOf_carries wf frame
  refine ⟨checkFrame_bytes p.1 sendable, stands, fun s run => ?_⟩
  rw [exec_request wf frame run, takeFrame, stands]

end Sys2Proof.Machine
end

section
namespace Sys2Proof.Machine

/-- What a command other than the inputs' own does outside reset is its answer (R146). -/
theorem live_answers {act : State → State} {s t : State} (run : s.inReset = false) (does : act s = t) :
    live act s = .next t := (live_running act s run).trans (congrArg _ does)

/-! ## Arbitration: the lowest address is left (R148) -/

/-- After the bits above `k` the winner `w` is still there, and those left with it are contenders that agree with it on
these bits (R148). -/
def Survives (cs : List (BitVec 4)) (w : BitVec 4) (k : Nat) (left : List (BitVec 4)) : Prop :=
  w ∈ left ∧ ∀ c ∈ left, c ∈ cs ∧ ∀ j, k ≤ j → c.getLsbD j = w.getLsbD j

theorem Survives.arbitrateBit {cs : List (BitVec 4)} {w : BitVec 4} (lowest : ∀ m ∈ cs, w.toNat ≤ m.toNat) {k : Nat}
    {left : List (BitVec 4)} (h : Survives cs w (k + 1) left) : Survives cs w k (arbitrateBit left k) := by
  obtain ⟨there, agree⟩ := h
  have low {c : BitVec 4} (hc : c ∈ left) (zero : c.getLsbD k = false) : w.getLsbD k = false := by
    obtain ⟨contends, above⟩ := agree c hc
    by_contra one
    have less : c.toNat < w.toNat :=
      Nat.lt_of_testBit k zero (Bool.eq_true_of_not_eq_false one) (fun j hj => above j hj)
    exact Nat.not_lt.mpr (lowest c contends) less
  have pair : left.all (fun c => c.getLsbD k) = w.getLsbD k := by
    rw [Bool.eq_iff_iff, List.all_eq_true]
    refine ⟨fun all => all w there, fun one c hc => ?_⟩
    by_contra zero
    exact Bool.false_ne_true ((low hc (Bool.eq_false_of_not_eq_true zero)).symm.trans one)
  have kept (c : BitVec 4) : c ∈ Machine.arbitrateBit left k ↔ c ∈ left ∧ c.getLsbD k = w.getLsbD k := by
    rw [Machine.arbitrateBit, List.mem_filter, pair]
    refine and_congr_right fun hc => ?_
    cases one : c.getLsbD k with
    | true => cases w.getLsbD k <;> decide
    | false => simp [low hc one]
  refine ⟨(kept w).mpr ⟨there, rfl⟩, fun c hc => ?_⟩
  obtain ⟨hc, same⟩ := (kept c).mp hc
  obtain ⟨contends, above⟩ := agree c hc
  refine ⟨contends, fun j hj => ?_⟩
  obtain rfl | further := Nat.eq_or_lt_of_le hj
  · exact same
  · exact above j further

/-- The contender with the lowest address wins (R148). -/
theorem arbitrate_lowest {cs : List (BitVec 4)} {w : BitVec 4} (there : w ∈ cs) (lowest : ∀ m ∈ cs, w.toNat ≤ m.toNat) :
    arbitrate cs = some w := by
  have start : Survives cs w 4 cs := ⟨there, fun c hc => ⟨hc, fun j hj => by
    rw [BitVec.getLsbD_of_ge c j hj, BitVec.getLsbD_of_ge w j hj]⟩⟩
  have left := (((start.arbitrateBit lowest).arbitrateBit lowest).arbitrateBit lowest).arbitrateBit lowest
  obtain ⟨some, agree⟩ := left
  unfold arbitrate
  cases all : arbitrateBit (arbitrateBit (arbitrateBit (arbitrateBit cs 3) 2) 1) 0 with
  | nil => simp [all] at some
  | cons c rest =>
    obtain ⟨-, same⟩ := agree c (by simp [all])
    exact congrArg Option.some (BitVec.eq_of_getLsbD_eq fun j _ => same j (Nat.zero_le j))

/-- An arbitration on a FREE line that a contender wins (R148). -/
theorem takeArbitration_won {s : State} {masters : List (BitVec 4)} {w : BitVec 4} (free : s.pli.line = .free)
    (won : arbitrate (s.contenders masters) = some w) :
    takeArbitration masters s = s.setPli
      { line := .selecting, winner := some w.toNat, delivery := s.pli.delivery, claimHold := s.pli.claimHold } := by
  rw [takeArbitration, if_pos free, won]
  rfl

/-! ## Selection by a master (R149, R168) -/

theorem nodeOfAddr_nodeAddr (n : Node) : nodeOfAddr (nodeAddr n) = some n := by
  have range : 1 ≤ n.val + 1 ∧ n.val + 1 ≤ 12 := by omega
  simp [nodeOfAddr, nodeAddr, range]

theorem nodeOfAddr_outside {a : Nat} (out : a = 0 ∨ 12 < a) : nodeOfAddr a = none := dif_neg (by omega)

/-- Whether a SELECT is answered, by its header and the winner (R149). -/
theorem answeredSelect_eq {s : State} {raw : RawFrame} {h : Header} (read : headerOf raw = some h) :
    s.answeredSelect raw =
      if h.kind = ctrlCode .select ∧ h.receiver = 0 ∧ s.pli.winner = some h.sender then nodeOfAddr h.sender
      else none := by
  rw [State.answeredSelect, read]

theorem takeSelect_unanswered {s : State} {raw : RawFrame} (selecting : s.pli.line = .selecting)
    (following : s.pli.following = true) (unanswered : s.answeredSelect raw = none) : takeSelect raw s = s := by
  rw [takeSelect, if_pos ⟨selecting, following⟩, unanswered]

theorem takeSelect_answered {s : State} {raw : RawFrame} {n : Node} (selecting : s.pli.line = .selecting)
    (following : s.pli.following = true) (answered : s.answeredSelect raw = some n) :
    takeSelect raw s = s.setPli { s.pli with acking := some n, sending := [.selectAck] } := by
  rw [takeSelect, if_pos ⟨selecting, following⟩, answered]

/-- Settles O46: arbitration by the lowest contender, SELECT by whether it is answered. -/
theorem lineIsWonAndSelected : Obligations.LineIsWonAndSelected := by
  intro s masters w raw n run
  refine ⟨fun busy => ?_, fun free => ?_, fun selecting noConn noAck => ?_, fun selecting acking => ?_, fun idle => ?_⟩
  · exact live_answers run (if_neg busy)
  · have wins {ms : List (BitVec 4)} {v : BitVec 4} (won : arbitrate (s.contenders ms) = some v) :
        exec (.arbitration ms) s = _ := live_answers run (takeArbitration_won free won)
    refine ⟨fun list => ?_, fun list there lowest => ?_, fun list => ?_⟩
    · exact wins (arbitrate_lowest (w := 0) (by simp [State.contenders, list]) (fun m _ => Nat.zero_le _))
    · have mastersAlone : s.contenders masters = masters := by simp [State.contenders, list]
      have won : arbitrate (s.contenders masters) = some w := by rw [mastersAlone, arbitrate_lowest there lowest]
      exact wins won
    · have nobody : s.contenders [] = [] := by simp [State.contenders, list]
      refine live_answers run ?_
      rw [takeArbitration, if_pos free, nobody]
      rfl
  · have following : s.pli.following = true := by simp [Pli.following, noConn, noAck]
    refine ⟨fun unread => ?_, fun h read kind => ⟨fun other => ?_, fun receiver sender won => ?_⟩⟩
    · have unanswered : s.answeredSelect raw = none := by rw [State.answeredSelect, unread]
      exact live_answers run (takeSelect_unanswered selecting following unanswered)
    · have unanswered : s.answeredSelect raw = none := by
        rw [answeredSelect_eq read]
        split
        · next addressed =>
          obtain ⟨-, receiver, won⟩ := addressed
          exact nodeOfAddr_outside (by simpa [receiver, won] using other)
        · rfl
      exact live_answers run (takeSelect_unanswered selecting following unanswered)
    · have answered : s.answeredSelect raw = some n := by
        rw [answeredSelect_eq read, if_pos ⟨kind, receiver, won⟩, sender, nodeOfAddr_nodeAddr]
      exact live_answers run (takeSelect_answered selecting following answered)
  · refine live_answers run ?_
    simp only [completeSelection, selecting, acking]
    rfl
  · refine live_answers run ?_
    unfold completeSelection
    split
    · next selecting acking => simp [selecting, acking] at idle
    · rfl

end Sys2Proof.Machine
end

section
namespace Sys2Proof.Machine

/-- A connection in which the partner holds the turn, and one in which it does not (R150). -/
theorem partnersTurn_true {c : Conn} (master : c.kind = .master) (partner : c.turn = .partner) :
    c.partnersTurn = true := by
  simp [Conn.partnersTurn, master, partner]

theorem partnersTurn_false {c : Conn} (away : c.kind = .reselection ∨ c.turn = .gx) : c.partnersTurn = false := by
  obtain kind | side := away
  · simp [Conn.partnersTurn, kind]
  · simp [Conn.partnersTurn, side]

/-! ## What a frame does to errors, halt and turn deadline (R150, R158, R160, R161) -/

/-- One counted error of a node record (R160). -/
theorem countError_eq (r : NodeRec) : r.countError =
    { r with errCount := min 255 (r.errCount + 1), saturated := r.saturated || decide (255 ≤ r.errCount) } := by
  unfold NodeRec.countError
  split
  · next many => rw [min_eq_left (Nat.le_succ_of_le many), decide_eq_true many, Bool.or_true]
  · next few => rw [min_eq_right (by omega), decide_eq_false few, Bool.or_false]

theorem countError_burstHalt (r : NodeRec) : r.countError.burstHalt = r.burstHalt := by rw [countError_eq]

theorem noteFixed_eq (s : State) (corrected : Bool) : s.noteFixed corrected =
    s.setPli { s.pli with errors := if corrected then s.pli.errors ||| 1 else s.pli.errors } := by
  cases corrected <;> rfl

/-- A counted error: its bit, one more count of the partner, and the halt of a burst with burst halt on
(R158, R160, R161). -/
theorem discardFrame_counted (s : State) (c : Conn) {e : ErrBit} (counted : errCounted e = true) :
    s.discardFrame c e =
      (s.setNode c.partner (s.node c.partner).countError).setPli { s.pli with
          errors := addErr e s.pli.errors
          halted := s.pli.halted || (c.partnersTurn && (s.node c.partner).burstHalt) } := by
  rw [State.discardFrame, if_pos counted, State.countError, State.addError, State.setPli_node, State.haltBurst,
    State.setNode_node, countError_burstHalt]
  cases halts : c.partnersTurn && (s.node c.partner).burstHalt with
  | true => rw [if_pos rfl, Bool.or_true]; rfl
  | false => rw [if_neg Bool.false_ne_true, Bool.or_false]; rfl

/-- A frame in the partner's turn moves the turn deadline to 50 ms ahead (R150). -/
theorem touch_turn {s : State} {c : Conn} (conn : s.pli.conn = some c) (turn : c.partnersTurn = true) :
    s.touch = s.setPli { s.pli with conn := some { c with deadline := some (s.now + 50) } } := by
  simp [State.touch, conn, turn]

theorem touch_away {s : State} {c : Conn} (conn : s.pli.conn = some c) (away : c.partnersTurn = false) :
    s.touch = s := by
  have same : s.setPli { s.pli with conn := some c } = s := by rw [← conn]; rfl
  simpa [State.touch, conn, away] using same

/-! ## The verdict of the checks (R158) -/

theorem checkKindAndAddress_discard {n : Node} {h : Header} {p : List Byte} {corrected fixed : Bool} {e : ErrBit}
    (verdict : checkKindAndAddress n h p corrected = .discard e fixed) : errCounted e = true := by
  unfold checkKindAndAddress at verdict
  dsimp only at verdict
  split at verdict
  · split at verdict <;> cases verdict
    rfl
  · split at verdict <;> cases verdict
    rfl
  · cases verdict
    rfl

/-- What the checks discard is counted (R158, R160). -/
theorem checkFrame_discard {n : Node} {raw : RawFrame} {fixed : Bool} {e : ErrBit}
    (verdict : checkFrame n raw = .discard e fixed) : errCounted e = true := by
  unfold checkFrame at verdict
  split at verdict
  · cases verdict
    rfl
  · cases verdict
    rfl
  dsimp only at verdict
  split at verdict
  · cases verdict
    rfl
  split at verdict
  · exact checkKindAndAddress_discard verdict
  split at verdict
  · cases verdict
    rfl
  split at verdict
  · cases verdict
    rfl
  split at verdict
  · cases verdict
    rfl
  · exact checkKindAndAddress_discard verdict

/-! ## A frame of the partner (R147, R150) -/

theorem openConn_connected {s : State} (line : s.pli.line = .connected) : s.openConn = s.pli.conn := if_pos line

/-- In the PLI's own connection every row of a frame is judged by its bytes (log 8). -/
theorem exec_frame {s : State} {raw : RawFrame} {cmd : Instr} (run : s.inReset = false) (line : s.pli.line = .connected)
    (row : cmd ∈ [Instr.requestFrameReceived raw, .frameDiscarded raw, .fill raw, .turn raw, .endFrame raw, .select raw,
      .selectAck raw]) (own : s.pli.conn ≠ none ∨ cmd ≠ .endFrame raw) : exec cmd s = .next (receive raw s) := by
  simp only [List.mem_cons, List.not_mem_nil, or_false] at row
  obtain rfl | rfl | rfl | rfl | rfl | rfl | rfl := row
  · exact live_running _ s run
  · exact live_running _ s run
  · exact live_running _ s run
  · exact live_running _ s run
  · have party : s.pli.following = false := by
      obtain conn | other := own
      · simp [Pli.following, conn]
      · exact absurd rfl other
    exact live_answers run (by rw [takeEnd, party]; rfl)
  · exact live_answers run (if_neg (by simp [line]))
  · exact live_answers run (if_neg (by simp [line]))

/-- In its own connection the PLI judges a frame by the checks (R158). -/
theorem exec_frame_conn {s : State} {c : Conn} {raw : RawFrame} {cmd : Instr} (run : s.inReset = false)
    (line : s.pli.line = .connected) (conn : s.pli.conn = some c)
    (row : cmd ∈ [Instr.requestFrameReceived raw, .frameDiscarded raw, .fill raw, .turn raw, .endFrame raw, .select raw,
      .selectAck raw]) : exec cmd s = .next (s.takeVerdict c (checkFrame c.partner raw)) := by
  rw [exec_frame run line row (.inl (by simp [conn])), receive, openConn_connected line, conn]

/-- A frame that is not taken in the partner's turn counts an error (R150, R158, R160). -/
theorem discardFrame_touch {s : State} {c : Conn} (conn : s.pli.conn = some c) (turn : c.partnersTurn = true)
    (corrected : Bool) {e : ErrBit} (counted : errCounted e = true) :
    ((s.noteFixed corrected).discardFrame c e).touch =
      (s.setNode c.partner (s.node c.partner).countError).setPli { s.pli with
          conn := some { c with deadline := some (s.now + 50) }
          errors := (if corrected then s.pli.errors ||| 1 else s.pli.errors) ||| BitVec.twoPow 16 (errBitNo e)
          halted := s.pli.halted || (s.node c.partner).burstHalt } := by
  rw [noteFixed_eq, discardFrame_counted _ c counted, turn, Bool.true_and]
  exact touch_turn (c := c) conn turn

/-- A frame out of the partner's turn counts an error and halts nothing (R150, R154; log 14). -/
theorem discardFrame_away (s : State) {c : Conn} (away : c.partnersTurn = false)
    (corrected : Bool) {e : ErrBit}
    (counted : errCounted e = true) : (s.noteFixed corrected).discardFrame c e =
      (s.setNode c.partner (s.node c.partner).countError).setPli { s.pli with
          errors := (if corrected then s.pli.errors ||| 1 else s.pli.errors) ||| BitVec.twoPow 16 (errBitNo e) } := by
  rw [noteFixed_eq, discardFrame_counted _ c counted, away, Bool.false_and, Bool.or_false]
  rfl

/-- Out of the partner's turn no kind is allowed (R150, R154). -/
theorem keepFrame_away (s : State) {c : Conn} (away : c.partnersTurn = false) (f : Kept) :
    s.keepFrame c f = s.discardFrame c .outOfPlace := by
  unfold State.keepFrame
  rw [away, if_neg Bool.false_ne_true]

/-- In the partner's turn each kind acts, or is out of place (R150). -/
theorem keepFrame_request (s : State) {c : Conn} (turn : c.partnersTurn = true) (f : ReqFrame) :
    s.keepFrame c (.request f) = (s.keepRequest c f).touch := if_pos turn

theorem keepFrame_fill (s : State) {c : Conn} (turn : c.partnersTurn = true) : s.keepFrame c (.ctrl .fill) = s.touch :=
  if_pos turn

theorem keepFrame_turn (s : State) {c : Conn} (turn : c.partnersTurn = true) :
    s.keepFrame c (.ctrl .turn) = s.takeTurn c := if_pos turn

theorem keepFrame_end (s : State) {c : Conn} (turn : c.partnersTurn = true) :
    s.keepFrame c (.ctrl .endFrame) = s.endConn := if_pos turn

theorem keepFrame_outOfPlace (s : State) {c : Conn} (turn : c.partnersTurn = true) {k : CtrlKind}
    (stray : k ∈ [CtrlKind.select, .selectAck, .reply, .report]) :
    s.keepFrame c (.ctrl k) = (s.discardFrame c .outOfPlace).touch := by
  simp only [List.mem_cons, List.not_mem_nil, or_false] at stray
  obtain rfl | rfl | rfl | rfl := stray <;> exact if_pos turn

/-- Settles O48: the verdict of the checks decides, with the closed form of a counted error in and out of the partner's
turn. -/
theorem framesOfBurst : Obligations.FramesOfBurst := by
  intro s raw cmd run line row
  refine ⟨fun noConn other => ?_, fun c conn corrected => ?_⟩
  · rw [exec_frame run line row (.inr other), receive, openConn_connected line, noConn]
  have taken := exec_frame_conn run line conn row
  dsimp only
  refine ⟨fun master partner => ?_, fun away => ?_⟩
  · have turn := partnersTurn_true master partner
    refine ⟨fun verdict => ?_, fun k stray verdict => ?_, fun e verdict => ?_, fun f verdict => ?_⟩
    · rw [taken, verdict, State.takeVerdict, keepFrame_fill _ turn, noteFixed_eq]
      exact congrArg _ (touch_turn (c := c) conn turn)
    · rw [taken, verdict, State.takeVerdict, keepFrame_outOfPlace _ turn stray,
        discardFrame_touch conn turn corrected rfl, countError_eq]
      rfl
    · rw [taken, verdict, State.takeVerdict, discardFrame_touch conn turn corrected (checkFrame_discard verdict),
        countError_eq]
    · have buffer : (s.noteFixed corrected).pli.buffer = s.pli.buffer := by rw [noteFixed_eq]; rfl
      have halt : (s.noteFixed corrected).pli.halted = s.pli.halted := by rw [noteFixed_eq]; rfl
      rw [taken, verdict, State.takeVerdict, keepFrame_request _ turn, State.keepRequest, buffer, halt]
      refine ⟨fun full => ?_, fun room halted => ?_, fun room going => ?_⟩
      · rw [if_pos full, discardFrame_touch conn turn corrected rfl, countError_eq]
        rfl
      · rw [if_neg (Nat.not_le.mpr room), if_pos halted, noteFixed_eq]
        exact congrArg _ ((touch_turn (c := c) (by exact conn) turn).trans rfl)
      · rw [if_neg (Nat.not_le.mpr room), if_neg (Bool.not_eq_true _ ▸ going), noteFixed_eq]
        exact congrArg _ ((touch_turn (c := c) (by exact conn) turn).trans rfl)
  · have out := partnersTurn_false away
    refine ⟨fun f verdict => ?_, fun e verdict => ?_⟩
    · rw [taken, verdict, State.takeVerdict, keepFrame_away _ out, discardFrame_away s out corrected rfl, countError_eq]
      rfl
    · rw [taken, verdict, State.takeVerdict, discardFrame_away s out corrected (checkFrame_discard verdict),
        countError_eq]
      exact congrArg _ (touch_away (c := c) (by exact conn) out)

end Sys2Proof.Machine
end

section
namespace Sys2Proof.Machine

/-! ## END, and the frames sent whole (R147, R150, R152, R153, R154) -/

theorem isCtrl_iff {raw : RawFrame} {h : Header} (read : headerOf raw = some h) (k : CtrlKind) :
    isCtrl raw k = true ↔ h.kind = ctrlCode k := by
  rw [isCtrl, read]
  exact beq_iff_eq

/-- Ordinary replies have gone out before what stands behind them (R152; log 15). -/
theorem afterReplies_append {replies : List OutFrame} (ordinary : ∀ f ∈ replies, ∃ tag p, f = .reply tag p)
    {f : OutFrame} (other : ∀ tag p, f ≠ .reply tag p) (rest : List OutFrame) :
    OutFrame.afterReplies (replies ++ f :: rest) = f :: rest := by
  induction replies with
  | nil =>
    cases f with
    | reply tag p => exact absurd rfl (other tag p)
    | _ => rfl
  | cons r replies ih =>
    obtain ⟨⟨tag, p, rfl⟩, others⟩ := List.forall_mem_cons.mp ordinary
    exact ih others

theorem undeliver_spec (s : State) (n : Node) : s.undeliver n =
    s.setPli { s.pli with delivery := s.pli.delivery.filter (fun m => decide (m ≠ n)) } := by
  have same : (fun m : Node => m != n) = fun m => decide (m ≠ n) := by
    funext m
    cases h : m != n <;> simpa using h
  rw [State.undeliver, same]

/-- Settles O50: the line is freed by an END; a sent-whole command acts on the frame that stands behind the ordinary
replies. -/
theorem endAndSentEvents : Obligations.EndAndSentEvents := by
  intro s raw run freed
  refine ⟨fun noConn noAck busy h read kind => ?_, fun nothing => ⟨?_, ?_, ?_⟩, fun replies ordinary =>
    ⟨fun bits rest sending => ?_, fun line c conn => ?_⟩⟩
  · have heard : (s.pli.following && (s.pli.line == .connected || s.pli.line == .selecting) && isCtrl raw .endFrame)
        = true := by
      rw [(isCtrl_iff read .endFrame).mpr kind]
      obtain line | line := busy <;> simp [Pli.following, noConn, noAck, line]
    exact live_answers run (if_pos heard)
  · refine live_answers run ?_
    unfold slotReplySent
    rw [nothing]
    cases s.openConn <;> rfl
  · refine live_answers run ?_
    unfold reportSent
    rw [nothing]
    rfl
  · refine live_answers run ?_
    unfold burstEndSent
    rw [nothing]
    cases s.openConn <;> rfl
  · refine live_answers run ?_
    unfold reportSent
    rw [sending, afterReplies_append ordinary (by simp) rest]
  have party : s.openConn = some c := (openConn_connected line).trans conn
  refine ⟨fun corrected master partner verdict => ?_, fun tag p rest sending => ?_, fun master sending => ?_,
    fun sending => ?_⟩
  · rw [exec_frame_conn (raw := raw) run line conn (by simp), verdict, State.takeVerdict,
      keepFrame_end _ (partnersTurn_true master partner), noteFixed_eq]
    rfl
  · refine live_answers run ?_
    unfold slotReplySent
    simp only [party, sending, undeliver_spec]
    rfl
  · refine live_answers run ?_
    unfold burstEndSent
    rw [party, sending, afterReplies_append ordinary (by simp)]
    exact if_pos master
  · refine live_answers run ?_
    unfold burstEndSent
    rw [party, sending, afterReplies_append ordinary (by simp)]
    rfl

end Sys2Proof.Machine
end

section
namespace Sys2Proof.Machine

/-! ## Timeouts and line resets (R153, R156, R157) -/

theorem openConn_apart {s : State} (apart : s.pli.conn = none ∨ s.pli.line ≠ .connected) : s.openConn = none := by
  unfold State.openConn
  split
  · next line => exact apart.resolve_right (not_not_intro line)
  · rfl

/-- Without a connection of its own the PLI has no turn to lose (R156). -/
theorem passTurn_apart {s : State} (apart : s.openConn = none) (arrival : Nat) :
    passTurn arrival s = s.advance arrival := by
  have advanced : (s.advance arrival).openConn = none := apart
  rw [passTurn, advanced]

/-- A turn deadline that has not passed in the partner's turn, or no partner's turn (R156). -/
theorem passTurn_ahead {s : State} {c : Conn} (party : s.openConn = some c) (arrival : Nat)
    (ahead : c.partnersTurn = false ∨ (s.advance arrival).passed c.deadline = false) :
    passTurn arrival s = s.advance arrival := by
  have advanced : (s.advance arrival).openConn = some c := party
  rw [passTurn, advanced]
  exact if_neg (by obtain h | h := ahead <;> simp [h])

theorem passTurn_passed {s : State} {c : Conn} (party : s.openConn = some c) (arrival : Nat)
    (turn : c.partnersTurn = true) (passed : (s.advance arrival).passed c.deadline = true) :
    passTurn arrival s = ((s.advance arrival).countError c.partner).endConnWithEnd := by
  have advanced : (s.advance arrival).openConn = some c := party
  rw [passTurn, advanced]
  exact if_pos (by rw [turn, passed]; rfl)

/-- A line reset without a connection of the PLI (R157). -/
theorem takeLineReset_apart {s : State} (idle : s.pli.line ≠ .resetting) (apart : s.openConn = none)
    (receiving : Bool) : takeLineReset receiving s = s.setPli (s.pli.dropped .resetting) := by
  rw [takeLineReset, if_neg idle, State.abandonLine, apart]

/-- A HELD reply is returned only where a line reset cuts it short in a master connection (R153). -/
theorem returnHeld_stands {s : State} {c : Conn} (stands : (∀ x, (s.node c.partner).slot ≠ .held x) ∨
    c.kind = .reselection ∨ s.pli.sending.any OutFrame.isSlotReply = false) : s.returnHeld c = s := by
  unfold State.returnHeld
  split
  · next x held =>
    refine if_neg fun ⟨master, cut⟩ => ?_
    obtain other | kind | whole := stands
    · exact other x held
    · simp [kind] at master
    · simp [whole] at cut
  · rfl

theorem returnHeld_cut {s : State} {c : Conn} {x : SlotReply} (held : (s.node c.partner).slot = .held x)
    (master : c.kind = .master) (cut : s.pli.sending.any OutFrame.isSlotReply = true) :
    s.returnHeld c = s.deliver c.partner x := by
  rw [State.returnHeld, held]
  exact if_pos ⟨master, cut⟩

/-- The partner's record after a line reset: a frame that was arriving is counted (R157; log 18). -/
def cutRecord (r : NodeRec) (receiving : Bool) : NodeRec := if receiving then r.countError else r

theorem cutRecord_slot (r : NodeRec) (receiving : Bool) : (cutRecord r receiving).slot = r.slot := by
  cases receiving
  · rfl
  · exact countError_slot r

theorem takeLineReset_conn {s : State} {c : Conn} (line : s.pli.line = .connected) (conn : s.pli.conn = some c)
    (receiving : Bool) : takeLineReset receiving s =
      let t := (s.setNode c.partner (cutRecord (s.node c.partner) receiving)).returnHeld c
      t.setPli (t.pli.dropped .resetting) := by
  have counted : (if receiving then s.countError c.partner else s)
      = s.setNode c.partner (cutRecord (s.node c.partner) receiving) := by
    cases receiving
    · exact (State.setNode_same s c.partner).symm
    · rfl
  rw [takeLineReset, if_neg (by simp [line]), State.abandonLine, (openConn_connected line).trans conn]
  dsimp only
  rw [counted]

/-- A line reset in a connection that cuts no HELD reply short (R153, R157). -/
theorem takeLineReset_stands {s : State} {c : Conn} (line : s.pli.line = .connected) (conn : s.pli.conn = some c)
    (receiving : Bool) (stands : (∀ x, (s.node c.partner).slot ≠ .held x) ∨ c.kind = .reselection ∨
      s.pli.sending.any OutFrame.isSlotReply = false) :
    takeLineReset receiving s =
      (s.setNode c.partner (cutRecord (s.node c.partner) receiving)).setPli (s.pli.dropped .resetting) := by
  rw [takeLineReset_conn line conn, returnHeld_stands (by rwa [State.setNode_node, cutRecord_slot])]
  rfl

/-- A line reset in a master connection that cuts a HELD reply short (R153, R157). -/
theorem takeLineReset_cut {s : State} {c : Conn} (line : s.pli.line = .connected) (conn : s.pli.conn = some c)
    (receiving : Bool) {x : SlotReply} (held : (s.node c.partner).slot = .held x) (master : c.kind = .master)
    (cut : s.pli.sending.any OutFrame.isSlotReply = true) :
    takeLineReset receiving s =
      (s.setNode c.partner { cutRecord (s.node c.partner) receiving with slot := .deliverable x }).setPli
        { s.pli.dropped .resetting with delivery := s.pli.delivery ++ [c.partner] } := by
  have still : ((s.setNode c.partner (cutRecord (s.node c.partner) receiving)).node c.partner).slot = .held x := by
    rwa [State.setNode_node, cutRecord_slot]
  rw [takeLineReset_conn line conn, returnHeld_cut still master cut, deliver_spec, State.setNode_node,
    State.setNode_setNode]
  rfl

/-- An idle line is reset with the claim pair held for 2 ms (R157). -/
theorem passIdle_busy {s : State} (busy : s.pli.line ≠ .free) (arrival : Nat) :
    passIdle arrival s =
      let t := takeLineReset false (s.advance arrival)
      t.setPli { t.pli with claimHold := some (t.now + 2) } := if_neg busy

/-- Settles O52: each command by its closed form, for a line apart from the PLI and for a connection of its own. -/
theorem lineAbandoned : Obligations.LineAbandoned := by
  intro s arrival receiving run
  dsimp only
  refine ⟨fun resetting => ⟨?_, ?_, ?_, ?_⟩, fun other => ?_, fun free => ?_,
    fun other apart => ⟨?_, ?_, fun busy => ?_⟩,
    fun line c conn => ⟨fun side => ?_, fun master partner d deadline => ⟨fun ahead => ?_, fun reached => ?_⟩,
      fun stands => ⟨?_, ?_⟩, fun x held master cut => ⟨?_, ?_⟩⟩⟩
  · exact live_answers run (if_pos resetting)
  · exact live_answers run (if_pos resetting)
  · exact live_answers run (passTurn_apart (openConn_apart (.inr (by simp [resetting]))) arrival)
  · have stays : takeLineReset false (s.advance arrival) = s.advance arrival := if_pos resetting
    refine live_answers run ((passIdle_busy (by simp [resetting]) arrival).trans ?_)
    rw [stays]
    rfl
  · exact live_answers run (if_neg other)
  · exact live_answers run (if_pos free)
  · exact live_answers run (takeLineReset_apart other (openConn_apart apart) receiving)
  · exact live_answers run (passTurn_apart (openConn_apart apart) arrival)
  · refine live_answers run ((passIdle_busy busy arrival).trans ?_)
    rw [takeLineReset_apart (s := s.advance arrival) other (openConn_apart apart)]
    rfl
  · exact live_answers run (passTurn_ahead ((openConn_connected line).trans conn) arrival
      (.inl (partnersTurn_false (.inr side))))
  · have unpassed : (s.advance arrival).passed c.deadline = false := by
      rw [Option.mem_def.mp deadline]
      exact decide_eq_false (Nat.not_le.mpr ahead)
    exact live_answers run (passTurn_ahead ((openConn_connected line).trans conn) arrival (.inr unpassed))
  · have turn := partnersTurn_true master partner
    have passed : (s.advance arrival).passed c.deadline = true := by
      rw [Option.mem_def.mp deadline]
      exact decide_eq_true reached
    refine live_answers run ((passTurn_passed ((openConn_connected line).trans conn) arrival turn passed).trans ?_)
    rw [State.countError, State.advance_node, countError_eq]
    rfl
  · refine live_answers run ((takeLineReset_stands line conn receiving stands).trans ?_)
    rw [cutRecord, countError_eq]
    rfl
  · refine live_answers run ((passIdle_busy (by simp [line]) arrival).trans ?_)
    rw [takeLineReset_stands (s := s.advance arrival) line conn false stands, cutRecord, if_neg Bool.false_ne_true,
      State.setNode_same]
    rfl
  · refine live_answers run ((takeLineReset_cut line conn receiving held master cut).trans ?_)
    rw [cutRecord, countError_eq]
    rfl
  · refine live_answers run ((passIdle_busy (by simp [line]) arrival).trans ?_)
    rw [takeLineReset_cut (s := s.advance arrival) line conn false held master cut]
    rfl

end Sys2Proof.Machine
end

section
namespace Sys2Proof.Machine

/-! ## Digest items and their values (R164, R174, R175) -/

/-- The values of some digest items as they are sent, one after another (R164; log 12). -/
def State.digestValues (s : State) (items : List (Nat × Nat)) : List (List Byte) :=
  match items with
  | [] => []
  | i :: rest => s.digestValue i :: { s with freeCount := s.freeCount + 4 }.digestValues rest

theorem length_digestValues (items : List (Nat × Nat)) (s : State) : (s.digestValues items).length = items.length := by
  induction items generalizing s with
  | nil => rfl
  | cons i rest ih => exact congrArg (· + 1) (ih _)

/-- The bytes of items are selector, index and value of each (R164). -/
theorem digestBytes_eq (items : List (Nat × Nat)) (s : State) : s.digestBytes items =
    (List.zipWith (fun i v => BitVec.ofNat 8 i.1 :: BitVec.ofNat 8 i.2 :: v) items (s.digestValues items)).flatten := by
  induction items generalizing s with
  | nil => rfl
  | cons i rest ih =>
    rw [State.digestBytes, ih, State.digestValues, List.zipWith_cons_cons, List.flatten_cons, State.digestItemBytes]
    simp [beBytes]

/-- Every value sent shows its item as the state stands: the free bytes drawn before it do not matter (R164; log 12). -/
theorem digestValues_shown (items : List (Nat × Nat)) (s : State) :
    ∀ x ∈ List.zip items (s.digestValues items), s.digestShown x.1 x.2 = true := by
  induction items generalizing s with
  | nil => exact nofun
  | cons i rest ih =>
    rw [State.digestValues, List.zip_cons_cons, List.forall_mem_cons]
    exact ⟨digestValue_shown s i, ih { s with freeCount := s.freeCount + 4 }⟩

/-! ## A REPLY behind its head (R164, R171, R175) -/

/-- The payload of a REPLY to a node behind a head of status, kind and body (R164, R175). -/
def State.payloadBehind (s : State) (n : Node) (head : List Byte) : List Byte :=
  let body := head ++ s.digestSection n ((s.node n).replyLimit - head.length)
  if (s.node n).fixedLength then body ++ List.replicate ((s.node n).replyLimit - body.length) 0 else body

theorem replyPayload_eq (s : State) (n : Node) (st : Status) (k : ReqKind) (b : Body) :
    s.replyPayload n st k b = s.payloadBehind n (replyHead st k b) := rfl

/-- A payload is in order where its state shows the same digest items, and the node's cursor stands where the section is
to start (R164, R175). -/
theorem payloadBehind_ok {s t : State} {n : Node} {r : NodeRec} {cursor start : Nat} (head : List Byte)
    (shows : ∀ item, t.digestNamed item = s.digestNamed item) (node : t.node n = { r with cursor := cursor })
    (place : cursor ≡ start [MOD r.digest.length]) : s.payloadOk r head start (t.payloadBehind n head) := by
  have items : digestPick r.digest cursor (r.digestTaken head.length)
      = r.digestFrom start (r.digestTaken head.length) := by
    rw [digestPick_eq_digestFrom, NodeRec.digestFrom, NodeRec.digestFrom]
    exact List.map_congr_left fun i _ => by rw [place.add_right i]
  have shown (item : Nat × Nat) (v : List Byte) : s.digestShown item v = t.digestShown item v := by
    rw [State.digestShown, State.digestShown, shows]
  have count : (r.digestFrom start (r.digestTaken head.length)).length = r.digestTaken head.length := by
    simp [NodeRec.digestFrom]
  refine ⟨t.digestValues (r.digestFrom start (r.digestTaken head.length)), length_digestValues _ t, fun x hx => ?_, ?_⟩
  · rw [shown]
    exact digestValues_shown _ t x hx
  have sectionEq : t.digestSection n (r.replyLimit - head.length) =
      if r.digest = [] ∨ r.replyLimit ≤ head.length then []
      else BitVec.ofNat 8 (r.digestFrom start (r.digestTaken head.length)).length ::
        (List.zipWith (fun i v => BitVec.ofNat 8 i.1 :: BitVec.ofNat 8 i.2 :: v)
          (r.digestFrom start (r.digestTaken head.length))
          (t.digestValues (r.digestFrom start (r.digestTaken head.length)))).flatten := by
    rw [State.digestSection, node]
    simp only [Nat.sub_eq_zero_iff_le, digestCount_eq_digestTaken, items, count, digestBytes_eq]
    simp [beBytes]
  dsimp only
  rw [State.payloadBehind, node]
  dsimp only
  rw [sectionEq]
  cases r.fixedLength <;> simp

end Sys2Proof.Machine
end

section
namespace Sys2Proof.Machine

/-! ## Replies one after another (R152, R175) -/

/-- The state while replies to a node are composed: its digest cursor, the counter of free bytes and the line have
moved, and all else stands (R152, R175; log 12). -/
def State.composing (s : State) (n : Node) (cursor free : Nat) (p : Pli) : State :=
  { (s.setNode n { s.node n with cursor := cursor }).setPli p with freeCount := free }

theorem composing_start (s : State) (n : Node) (p : Pli) :
    s.composing n (s.node n).cursor s.freeCount p = s.setPli p := by
  have same : s.setNode n { s.node n with cursor := (s.node n).cursor } = s := State.setNode_same s n
  rw [State.composing, same]
  rfl

theorem composing_node (s : State) (n : Node) (cursor free : Nat) (p : Pli) :
    (s.composing n cursor free p).node n = { s.node n with cursor := cursor } :=
  State.setNode_node s n { s.node n with cursor := cursor }

theorem composing_node_ne (s : State) {n m : Node} (other : m ≠ n) (cursor free : Nat) (p : Pli) :
    (s.composing n cursor free p).node m = s.node m :=
  State.setNode_node_ne s n { s.node n with cursor := cursor } m other

/-- What digest items show is none of what a composition moves (R164). -/
theorem composing_digestNamed (s : State) (n : Node) (cursor free : Nat) (p : Pli) (item : Nat × Nat) :
    (s.composing n cursor free p).digestNamed item = s.digestNamed item := by
  have errors (m : Node) : ∃ c, (s.composing n cursor free p).node m = { s.node m with cursor := c } := by
    by_cases own : m = n
    · subst own
      exact ⟨cursor, composing_node s m cursor free p⟩
    · exact ⟨(s.node m).cursor, composing_node_ne s own cursor free p⟩
  unfold State.digestNamed
  split
  case h_8 m _ _ =>
    obtain ⟨c, node⟩ := errors m
    rw [node]
  all_goals rfl

/-- The cursor moves on by the items a REPLY carries (R175). -/
theorem moveCursor_composing (s : State) (n : Node) (cursor free : Nat) (p : Pli) (head : Nat) :
    ∃ cursor' free',
      (s.composing n cursor free p).moveCursor n ((s.node n).replyLimit - head) = s.composing n cursor' free' p ∧
      cursor' ≡ cursor + (s.node n).digestTaken head [MOD (s.node n).digest.length] ∧
      (cursor < (s.node n).digest.length → cursor' < (s.node n).digest.length) := by
  unfold State.moveCursor
  rw [composing_node]
  dsimp only
  split
  · next still =>
    have carried : (s.node n).digestTaken head = 0 := by
      obtain empty | full := still
      · simp [NodeRec.digestTaken, empty]
      · simp [NodeRec.digestTaken, full]
    exact ⟨cursor, free, rfl, by rw [carried]; exact Nat.ModEq.rfl, id⟩
  · next moves =>
    refine ⟨(cursor + (s.node n).digestTaken head) % (s.node n).digest.length,
      free + 4 * (s.node n).digestTaken head, ?_, Nat.mod_modEq _ _,
      fun _ => Nat.mod_lt _ (List.length_pos_of_ne_nil fun empty => moves (.inl empty))⟩
    exact congrArg (fun t : State => { t.setPli p with freeCount := free + 4 * (s.node n).digestTaken head })
       (State.setNode_setNode s n _ _)

/-- A reply: how its payload becomes a frame, and its head of status, kind and body (R152, R164). -/
abbrev Reply := (List Byte → OutFrame) × List Byte

/-- A reply is composed as the state stands and put behind the frames being sent (R152). -/
def State.sendReply (s : State) (n : Node) (x : Reply) : State :=
  let t := s.moveCursor n ((s.node n).replyLimit - x.2.length)
  t.setPli { t.pli with sending := t.pli.sending ++ [x.1 (s.payloadBehind n x.2)] }

def SlotReply.toReply (x : SlotReply) : Reply := (OutFrame.slotReply x.tag, replyHead x.status x.kind x.body)

def Answer.toReply (a : Answer) : Reply := (OutFrame.reply a.tag, replyHead a.status a.kind a.body)

theorem sendAnswer_eq (s : State) (n : Node) (a : Answer) : s.sendAnswer n a = s.sendReply n a.toReply := rfl

theorem sendSlotReply_eq (s : State) (n : Node) :
    s.sendSlotReply n = ((s.node n).slot.reply?.toList.map SlotReply.toReply).foldl (fun t x => t.sendReply n x) s := by
  unfold State.sendSlotReply
  cases (s.node n).slot.reply? with
  | none => rfl
  | some r => rfl

theorem sendReply_composing (s : State) (n : Node) (cursor free : Nat) (p : Pli) (x : Reply) {start : Nat}
    (place : cursor ≡ start [MOD (s.node n).digest.length]) :
    ∃ cursor' free' q, (s.composing n cursor free p).sendReply n x =
        s.composing n cursor' free' { p with sending := p.sending ++ [x.1 q] } ∧
      s.payloadOk (s.node n) x.2 start q ∧
      cursor' ≡ start + (s.node n).digestTaken x.2.length [MOD (s.node n).digest.length] ∧
      (cursor < (s.node n).digest.length → cursor' < (s.node n).digest.length) := by
  obtain ⟨cursor', free', moved, stands, within⟩ := moveCursor_composing s n cursor free p x.2.length
  refine ⟨cursor', free', _, ?_, payloadBehind_ok x.2 (composing_digestNamed s n cursor free p)
    (composing_node s n cursor free p) place, stands.trans (place.add_right _), within⟩
  rw [State.sendReply, composing_node]
  dsimp only
  rw [moved]
  rfl

/-- Replies one after another: each payload is in order from where the items before it end (R152, R175). -/
theorem sendReplies_composing (s : State) (n : Node) (xs : List Reply) (cursor free : Nat) (p : Pli) {start : Nat}
    (place : cursor ≡ start [MOD (s.node n).digest.length]) :
    let heads := xs.map (·.2)
    let counts := heads.map fun head => (s.node n).digestTaken head.length
    ∃ cursor' free' payloads, xs.foldl (fun t x => t.sendReply n x) (s.composing n cursor free p) =
        s.composing n cursor' free' { p with
          sending := p.sending ++ List.zipWith (fun frame q => frame q) (xs.map (·.1)) payloads } ∧
      payloads.length = heads.length ∧
      (∀ i < heads.length,
        s.payloadOk (s.node n) (heads.getD i []) (start + (counts.take i).sum) (payloads.getD i [])) ∧
      cursor' ≡ start + counts.sum [MOD (s.node n).digest.length] ∧
      (cursor < (s.node n).digest.length → cursor' < (s.node n).digest.length) := by
  induction xs generalizing cursor free p start with
  | nil => exact ⟨cursor, free, [], by simp, rfl, nofun, place, id⟩
  | cons x rest ih =>
    obtain ⟨c₁, f₁, q, first, ok, place₁, within₁⟩ := sendReply_composing s n cursor free p x place
    obtain ⟨c₂, f₂, payloads, others, length, oks, place₂, within₂⟩ :=
      ih c₁ f₁ { p with sending := p.sending ++ [x.1 q] } place₁
    refine ⟨c₂, f₂, q :: payloads, ?_, congrArg (· + 1) length, fun i hi => ?_, ?_, fun h => within₂ (within₁ h)⟩
    · rw [List.foldl_cons, first, others]
      simp
    · cases i with
      | zero => simpa using ok
      | succ i => simpa [Nat.add_assoc] using oks i (by simpa using hi)
    · simpa [Nat.add_assoc] using place₂

/-- The cursor after replies to a node: unmoved without digest items, else moved on by the items they carry (R175). -/
theorem cursor_after {r : NodeRec} {cursor : Nat} {heads : List (List Byte)}
    (place : cursor ≡ r.cursor + (heads.map fun head => r.digestTaken head.length).sum [MOD r.digest.length])
    (within : r.cursor < r.digest.length → cursor < r.digest.length) :
    (r.digest = [] → cursor = r.cursor) ∧ (r.cursor < r.digest.length →
      cursor = (r.cursor + (heads.map fun head => r.digestTaken head.length).sum) % r.digest.length) := by
  refine ⟨fun empty => ?_, fun ok => ?_⟩
  · have nothing : (heads.map fun head => r.digestTaken head.length).sum = 0 :=
      List.sum_eq_zero fun k hk => by
        obtain ⟨head, -, rfl⟩ := List.mem_map.mp hk
        simp [NodeRec.digestTaken, empty]
    rw [nothing, empty] at place
    exact Nat.modEq_zero_iff.mp place
  · exact (Nat.mod_eq_of_lt (within ok)).symm.trans place

end Sys2Proof.Machine
end

section
namespace Sys2Proof.Machine

/-! ## Reselection (R154, R155) -/

/-- The slot's reply of a node, put behind the frames being sent (R152, R154). -/
theorem sendSlotReply_composing {s : State} {n : Node} {x : SlotReply} (slot : (s.node n).slot.reply? = some x)
    (p : Pli) :
    ∃ cursor free q,
      (s.setPli p).sendSlotReply n = s.composing n cursor free { p with sending := p.sending ++ [.slotReply x.tag q] } ∧
      s.payloadOk (s.node n) (replyHead x.status x.kind x.body) (s.node n).cursor q ∧
      cursor ≡ (s.node n).cursor + (s.node n).digestTaken (replyHead x.status x.kind x.body).length
        [MOD (s.node n).digest.length] ∧
      ((s.node n).cursor < (s.node n).digest.length → cursor < (s.node n).digest.length) := by
  have sent : (s.setPli p).sendSlotReply n = (s.composing n (s.node n).cursor s.freeCount p).sendReply n x.toReply := by
    rw [sendSlotReply_eq, State.setPli_node, slot, composing_start]
    rfl
  rw [sent]
  exact sendReply_composing s n (s.node n).cursor s.freeCount p x.toReply Nat.ModEq.rfl

/-- The delivery of a slot's reply to a node that has answered: present, connected, its reply and END being sent
(R154, R168). -/
theorem deliverReselected_composing {s : State} {c : Conn} {r : NodeRec} {x : SlotReply}
    (node : r = { s.node c.partner with presence := .present }) (slot : r.slot.reply? = some x) :
    ∃ cursor free q,
      s.deliverReselected c = (s.setNode c.partner r).composing c.partner cursor free
        { line := .connected, conn := some c, delivery := s.pli.delivery, claimHold := s.pli.claimHold,
          sending := [.slotReply x.tag q, .endFrame] } ∧
      (s.setNode c.partner r).payloadOk r (replyHead x.status x.kind x.body) r.cursor q ∧
      cursor ≡ r.cursor + r.digestTaken (replyHead x.status x.kind x.body).length [MOD r.digest.length] ∧
      (r.cursor < r.digest.length → cursor < r.digest.length) := by
  have base : (s.setNode c.partner r).node c.partner = r := State.setNode_node s c.partner r
  obtain ⟨cursor, free, q, sent, ok, place, within⟩ := sendSlotReply_composing (s := s.setNode c.partner r)
    (n := c.partner) (x := x) (by rw [base, slot]) { s.pli.dropped .connected with conn := some c }
  rw [base] at ok place within
  have answered : (s.setPli { s.pli.dropped .connected with conn := some c }).setPresence c.partner .present
      = (s.setNode c.partner r).setPli { s.pli.dropped .connected with conn := some c } := by
    rw [node]
    rfl
  refine ⟨cursor, free, q, ?_, ok, place, within⟩
  rw [State.deliverReselected, answered, sent]
  rfl

theorem answersReselection_iff {raw : RawFrame} {h : Header} (read : headerOf raw = some h) (n : Node) :
    answersReselection raw n = true ↔ h.kind = ctrlCode .selectAck ∧ h.sender = nodeAddr n ∧ h.receiver = 0 := by
  rw [answersReselection, read]
  simp [and_assoc]

/-- A SELECT_ACK while the PLI selects is an answer of the node being selected, or nothing (R154, R155). -/
theorem takeSelectAck_own {s : State} {c : Conn} (selecting : s.pli.line = .selecting) (conn : s.pli.conn = some c)
    (raw : RawFrame) : takeSelectAck raw s = if answersReselection raw c.partner then s.deliverReselected c else s := by
  rw [takeSelectAck, if_pos selecting, conn]

/-- A SELECT_ACK while others select completes their selection, unless the PLI itself answers (R147; log 10, 20). -/
theorem takeSelectAck_others {s : State} (selecting : s.pli.line = .selecting) (noConn : s.pli.conn = none)
    (raw : RawFrame) : takeSelectAck raw s =
      if s.pli.following && isCtrl raw .selectAck then s.setPli (s.pli.dropped .connected) else s := by
  rw [takeSelectAck, if_pos selecting, noConn]

/-- A reselection is timed out where its deadline has passed (R155). -/
theorem passReselection_own {s : State} {c : Conn} (selecting : s.pli.line = .selecting) (conn : s.pli.conn = some c)
    (arrival : Nat) : passReselection arrival s =
      if (s.advance arrival).passed s.pli.selectDeadline then (s.advance arrival).failReselection c.partner
      else s.advance arrival := by
  have line : (s.advance arrival).pli.line = .selecting := selecting
  have stands : (s.advance arrival).pli.conn = some c := conn
  rw [passReselection, line, stands]
  rfl

/-- Settles O51: each command by whether it has its subject, and the delivery by the composition of one reply. -/
theorem reselectionDelivers : Obligations.ReselectionDelivers := by
  intro s raw arrival run
  refine ⟨fun selecting won noConn noAck n head => ?_, fun idle => ?_,
    fun selecting noConn => ⟨fun deaf => ?_, fun noAck h read => ⟨fun other => ?_, fun kind => ?_⟩⟩,
    fun selecting c conn => ⟨fun unread => ?_, fun h read => ⟨fun other => ?_,
      fun kind sender receiver => ?_⟩, fun d deadline => ⟨fun ahead => ?_, fun reached x slot => ?_⟩⟩⟩
  · obtain ⟨rest, list⟩ := List.head?_eq_some_iff.mp head
    refine live_answers run ?_
    rw [reselect, list]
    exact if_pos ⟨selecting, won, by simp [Pli.following, noConn, noAck]⟩
  · refine live_answers run ?_
    unfold reselect
    split
    · rfl
    · next n rest list =>
      refine if_neg fun ⟨selecting, won, _⟩ => ?_
      simp [selecting, won, list] at idle
  · refine live_answers run ((takeSelectAck_others selecting noConn raw).trans (if_neg ?_))
    obtain unread | acking := deaf
    · simp [isCtrl, unread]
    · simp [Pli.following, acking]
  · refine live_answers run ((takeSelectAck_others selecting noConn raw).trans (if_neg ?_))
    rw [Bool.and_eq_true, isCtrl_iff read]
    exact fun both => other both.2
  · refine live_answers run ((takeSelectAck_others selecting noConn raw).trans (if_pos ?_))
    rw [Bool.and_eq_true, isCtrl_iff read]
    exact ⟨by simp [Pli.following, noConn, noAck], kind⟩
  · refine live_answers run ((takeSelectAck_own selecting conn raw).trans (if_neg ?_))
    simp [answersReselection, unread]
  · refine live_answers run ((takeSelectAck_own selecting conn raw).trans (if_neg ?_))
    rw [answersReselection_iff read]
    rintro ⟨kind, sender, receiver⟩
    obtain h | h | h := other
    · exact h kind
    · exact h sender
    · exact h receiver
  · intro r x slot
    obtain ⟨cursor, free, q, delivered, ok, place, within⟩ :=
      deliverReselected_composing (s := s) (c := c) (r := r) rfl slot
    have answers : answersReselection raw c.partner = true :=
      (answersReselection_iff read _).mpr ⟨kind, sender, receiver⟩
    have node (p : Pli) := (composing_node (s.setNode c.partner r) c.partner cursor free p).trans
      (congrArg (fun r : NodeRec => { r with cursor := cursor }) (State.setNode_node s c.partner r))
    have after := cursor_after (r := r) (cursor := cursor) (heads := [replyHead x.status x.kind x.body])
      (by simpa using place) within
    refine ⟨_, q, live_answers run ((takeSelectAck_own selecting conn raw).trans (if_pos answers)), ok, ?_⟩
    rw [delivered, node]
    refine ⟨rfl, fun m other => ?_, rfl, after.1, ?_, ?_⟩
    · rw [composing_node_ne _ other, State.setNode_node_ne _ _ _ _ other]
    · simpa using after.2
    · rfl
  · have unpassed : (s.advance arrival).passed s.pli.selectDeadline = false := by
      rw [Option.mem_def.mp deadline]
      exact decide_eq_false (Nat.not_le.mpr ahead)
    exact live_answers run ((passReselection_own selecting conn arrival).trans (if_neg (by simp [unpassed])))
  · have passed : (s.advance arrival).passed s.pli.selectDeadline = true := by
      rw [Option.mem_def.mp deadline]
      exact decide_eq_true reached
    refine live_answers run ((passReselection_own selecting conn arrival).trans ((if_pos passed).trans ?_))
    rw [State.failReselection, undeliver_spec, State.advance_node, slot]
    rfl

end Sys2Proof.Machine
end

section
namespace Sys2Proof.Machine

/-! ## The taking of a burst (R151, R167) -/

/-- The answer to a request stands in `lastReply` (R151; log 1). -/
theorem take_lastReply (n : Node) (tag : Nat) (k : ReqKind) (act : State → Taken) (s : State) :
    ∃ a, (take n tag k act s).lastReply = some a ∧ a.tag = tag ∧ a.kind = k := ⟨_, rfl, rfl, rfl⟩

/-- A frame is taken as a request of its node, tag and kind (R151, R163). -/
theorem takeFrame_takes (n : Node) (f : ReqFrame) (s : State) : ∃ act, takeFrame n f s = take n f.tag f.kind act s := by
  obtain ⟨k, tag, arg, p⟩ := f
  cases ok : payloadLengthOk k p with
  | false =>
    have refused : requestOf n { kind := k, tag := tag, arg := arg, payload := p } = none := by simp [requestOf, ok]
    exact ⟨_, by rw [takeFrame, refused]⟩
  | true =>
    unfold takeFrame requestOf
    simp only [ok]
    cases k with
    | calibrate =>
      by_cases capture : payloadField p 1 3 = 16777215
      · exact ⟨_, by simp only [if_pos capture]; rfl⟩
      · exact ⟨_, by simp only [if_neg capture]; rfl⟩
    | _ => exact ⟨_, rfl⟩

theorem takeFrame_lastReply (n : Node) (f : ReqFrame) (s : State) :
    ∃ a, (takeFrame n f s).lastReply = some a ∧ a.tag = f.tag ∧ a.kind = f.kind := by
  obtain ⟨act, taken⟩ := takeFrame_takes n f s
  rw [taken]
  exact take_lastReply n f.tag f.kind act s

theorem takeAll_foldl (n : Node) (fs : List ReqFrame) (s : State) :
    (takeAll n fs s).1 = fs.foldl (fun t f => takeFrame n f t) s := by
  induction fs generalizing s with
  | nil => rfl
  | cons f rest ih => exact ih _

/-- One answer a request, with its tag and kind, as its taking left it in `lastReply` (R151; log 1). -/
theorem takeAll_answers (n : Node) (fs : List ReqFrame) (s : State) :
    (takeAll n fs s).2.map (·.tag) = fs.map (·.tag) ∧ (takeAll n fs s).2.map (·.kind) = fs.map (·.kind) ∧
      ∀ i < fs.length, (takeAll n fs s).2[i]? = ((fs.take (i + 1)).foldl (fun t f => takeFrame n f t) s).lastReply := by
  induction fs generalizing s with
  | nil => exact ⟨rfl, rfl, nofun⟩
  | cons f rest ih =>
    obtain ⟨a, answered, tag, kind⟩ := takeFrame_lastReply n f s
    obtain ⟨tags, kinds, each⟩ := ih (takeFrame n f s)
    have answers : (takeAll n (f :: rest) s).2 = a :: (takeAll n rest (takeFrame n f s)).2 := by
      simp [takeAll, answered]
    rw [answers]
    refine ⟨by simp [tag, tags], by simp [kind, kinds], fun i hi => ?_⟩
    cases i with
    | zero => simpa using answered.symm
    | succ i => simpa using each i (by simpa using hi)

/-! ## The reply burst (R152) -/

/-- The heads of a reply burst: the slot's reply, then the answers in order (R152, R164). -/
def burstHeads (slot : Slot) (answers : List Answer) : List (List Byte) :=
  slot.reply?.toList.map (fun x => replyHead x.status x.kind x.body) ++
    answers.map (fun a => replyHead a.status a.kind a.body)

/-- The frames that carry them (R152). -/
def burstFrames (slot : Slot) (answers : List Answer) : List (List Byte → OutFrame) :=
  slot.reply?.toList.map (fun x => OutFrame.slotReply x.tag) ++ answers.map (fun a => OutFrame.reply a.tag)

/-- A reply burst is the slot's reply, one REPLY an answer, and the closing frames, composed over one state (R152). -/
theorem composeBurst_composing (s : State) (n : Node) (bursts : Nat) (answers : List Answer) (p : Pli) :
    let heads := burstHeads (s.node n).slot answers
    let counts := heads.map fun head => (s.node n).digestTaken head.length
    ∃ cursor free payloads,
      (s.setPli p).composeBurst n bursts answers = s.composing n cursor free { p with
        sending := List.zipWith (fun frame q => frame q) (burstFrames (s.node n).slot answers) payloads
          ++ burstTail p.errors bursts } ∧
      payloads.length = heads.length ∧
      (∀ i < heads.length, s.payloadOk (s.node n) (heads.getD i []) ((s.node n).cursor + (counts.take i).sum)
        (payloads.getD i [])) ∧
      cursor ≡ (s.node n).cursor + counts.sum [MOD (s.node n).digest.length] ∧
      ((s.node n).cursor < (s.node n).digest.length → cursor < (s.node n).digest.length) := by
  let xs := (s.node n).slot.reply?.toList.map SlotReply.toReply ++ answers.map Answer.toReply
  have heads : xs.map (·.2) = burstHeads (s.node n).slot answers := by
    simp only [xs, burstHeads, List.map_append, List.map_map]
    rfl
  have frames : xs.map (·.1) = burstFrames (s.node n).slot answers := by
    simp only [xs, burstFrames, List.map_append, List.map_map]
    rfl
  obtain ⟨cursor, free, payloads, sent, length, oks, place, within⟩ := sendReplies_composing s n xs (s.node n).cursor
    s.freeCount { p with sending := [] } Nat.ModEq.rfl
  rw [heads] at length oks place
  rw [composing_start, frames] at sent
  refine ⟨cursor, free, payloads, ?_, length, oks, place, within⟩
  have replies : answers.foldl (fun t a => t.sendAnswer n a) ((s.setPli { p with sending := [] }).sendSlotReply n)
      = xs.foldl (fun t x => t.sendReply n x) (s.setPli { p with sending := [] }) := by
    simp only [sendSlotReply_eq, State.setPli_node, sendAnswer_eq, xs, List.foldl_append, List.foldl_map]
  have burst : (s.setPli p).composeBurst n bursts answers =
      let t := answers.foldl (fun t a => t.sendAnswer n a) ((s.setPli { p with sending := [] }).sendSlotReply n)
      t.setPli { t.pli with sending := t.pli.sending ++ burstTail t.pli.errors bursts } := rfl
  rw [burst, replies, sent]
  rfl

/-- Settles O49: the buffer is taken as one fold, and the reply burst composed over the state that it leaves. -/
theorem turnTakesBurst : Obligations.TurnTakesBurst := by
  intro s raw run line c conn master partner corrected verdict errors heard taken r
  have answer : exec (.turn raw) s = .next (heard.takeTurn c) := by
    rw [exec_frame_conn (raw := raw) run line conn (by simp), verdict, State.takeVerdict,
      keepFrame_turn _ (partnersTurn_true master partner), noteFixed_eq]
  obtain ⟨answers, taking⟩ : ∃ answers, takeAll c.partner heard.pli.buffer heard = (taken, answers) :=
    ⟨_, Prod.ext (takeAll_foldl c.partner s.pli.buffer heard) rfl⟩
  have delivers : taken.pli = { heard.pli with delivery := taken.pli.delivery } := by
    have acts := (takeAll_acts c.partner heard.pli.buffer heard).delivers
    rwa [taking] at acts
  have reported : taken.pli.errors = errors := congrArg Pli.errors delivers
  obtain ⟨tags, kinds, each⟩ := takeAll_answers c.partner heard.pli.buffer heard
  rw [taking] at tags kinds each
  obtain ⟨cursor, free, payloads, composed, length, oks, place, within⟩ :=
    composeBurst_composing taken c.partner c.bursts answers
      { taken.pli with buffer := [], halted := false, conn := some { c with turn := .gx, deadline := none } }
  have turned : heard.takeTurn c = (taken.setPli { taken.pli with
      buffer := [], halted := false, conn := some { c with turn := .gx, deadline := none } }).composeBurst c.partner
        c.bursts answers := by
    rw [State.takeTurn, taking]
  have node (p : Pli) := composing_node taken c.partner cursor free p
  have moved := cursor_after place within
  refine ⟨_, answer.trans (congrArg _ (turned.trans composed)), rfl, rfl, (congrArg Pli.line delivers).trans line, rfl,
    reported, rfl, rfl, fun m other => composing_node_ne taken other _ _ _, ?_, answers, tags, kinds, each, ?_⟩
  · rw [node]
  rw [node]
  refine ⟨moved.1, moved.2, payloads, length, ?_, oks⟩
  rw [← reported, List.append_assoc]
  rfl

end Sys2Proof.Machine
end

section
namespace Sys2Proof.Machine

/-! ## Requests the role may not use (R167) -/

/-- A request command is the taking of a request of its frame's node, tag and kind, whatever its operands (R151, R163).
The two forms of CALIBRATE are of one kind (R35). -/
theorem exec_frameOf_takes {c : Instr} {p : Node × ReqFrame} (frame : frameOf c = some p) :
    ∃ act, exec c = live (take p.1 p.2.tag p.2.kind act) := by
  cases c with
  | calibrate n tag bay zeroAt scale =>
    obtain rfl := Option.some.inj frame
    by_cases capture : zeroAt = 16777215
    · subst capture
      exact ⟨ownZeroCapture bay scale, rfl⟩
    · refine ⟨ownCalibrate bay zeroAt scale, ?_⟩
      funext s
      rw [exec, execCalibrate, if_neg capture]
      rfl
  | replyLimit | linkStats | feedOpen | feedProgress | feedClose | feedCancel | feedOutcome | degasEnd | foamOpen
  | foamResume | foamClose | batchQuery | vesselQuery | alarmRead | permit | vesselRetire | vesselClearFault
  | linkOptions | announce | degasBegin | cabinetAdmit | unitQuery | unitRelease | vesselMount | calibrateZeroCapture
  | setParam | setExpect | setDigest =>
    obtain rfl := Option.some.inj frame
    exact ⟨_, rfl⟩
  | _ => exact absurd frame nofun

/-- Settles O6: a request command is a taking, and a taking checks the role before its owner's part. -/
theorem notPermittedChangesNothing : Obligations.NotPermittedChangesNothing := by
  intro s c run p frame denied
  obtain ⟨act, takes⟩ := exec_frameOf_takes frame
  rw [takes]
  exact live_answers run (take_denied p.1 p.2.tag p.2.kind act s denied)

/-! ## LINK_STATS (R172) -/

/-- The owner's part where the address names a node: the check of the owner, then the answer (R172). -/
theorem ownLinkStats_named {addr : Nat} {m : Node} (named : nodeOfAddr addr = some m) (n : Node) (s : State) :
    ownLinkStats n addr s =
      if roleOf n ≠ .supervisory ∧ m ≠ n then refuse s .owner
      else
        { state := s.setNode m { s.node m with errCount := 0, saturated := false }
          status := .ok
          body := .linkStats m (s.node m).errCount (s.node m).saturated } := by
  simp only [ownLinkStats, named]

/-- Settles O29, by the node the address names and the owner's check. -/
theorem linkStatsClears : Obligations.LinkStatsClears := by
  intro s n tag addr run
  have answers {r : Taken} (answer : ownLinkStats n addr s = r) :
      exec (.linkStats n tag addr) s = .next (r.state.replied n tag .linkStats r.status r.body) :=
    live_take run rfl answer
  refine ⟨fun outside => ?_, fun m named => ?_⟩
  · have refused : ownLinkStats n addr s = refuse s .badArgument := by
      simp only [ownLinkStats, nodeOfAddr_outside outside]
    exact answers refused
  · have named := ownLinkStats_named named n s
    refine ⟨fun role other => ?_, fun owner => ?_⟩
    · rw [if_pos ⟨role, other⟩] at named
      exact answers named
    · rw [if_neg fun ⟨role, other⟩ => owner.elim role other] at named
      exact answers named

/-! ## SET_DIGEST (R174) -/

theorem digestItemOk_iff (i : Nat × Nat) : digestItemOk i = true ↔
    (1 ≤ i.1 ∧ i.1 ≤ 4 ∧ i.2 ≤ 7) ∨ (5 ≤ i.1 ∧ i.1 ≤ 7 ∧ i.2 = 0) ∨ (i.1 = 8 ∧ 1 ≤ i.2 ∧ i.2 ≤ 12) ∨
      (i.1 = 9 ∧ 1 ≤ i.2 ∧ i.2 ≤ 2) := by
  unfold digestItemOk
  split <;> simp only [decide_eq_true_eq, beq_iff_eq, Bool.false_eq_true] <;> grind

theorem digestOk_iff (items : List (Nat × Nat)) :
    digestOk items = true ↔ items.length ≤ 12 ∧ items.Nodup ∧ ∀ i ∈ items, digestItemOk i = true := by
  simp only [digestOk, Bool.and_eq_true, decide_eq_true_eq, List.all_eq_true]
  rw [and_right_comm, and_assoc]

/-! ## ALARM_READ (R177) -/

/-- The record of a kind after the record of a kind is written (R176). -/
theorem set_alarmIx (r : Vector Alarm 21) (k j : AlarmKind) (x : Alarm) :
    (r.set (alarmIx k) x)[alarmIx j] = if j = k then x else r[alarmIx j] := by
  by_cases same : j = k
  · simp [same]
  · have other : (alarmIx k).val ≠ (alarmIx j).val := fun e => same (alarmIx_injective (Fin.ext e)).symm
    simp only [Fin.getElem_fin, if_neg same, Vector.getElem_set_ne _ _ other]

theorem mem_kindsOfGroup (g : Fin 4) (k : AlarmKind) : k ∈ kindsOfGroup g ↔ alarmGroupOf k = g := by
  have listed : k ∈ allAlarmKinds := by cases k <;> decide
  simp [kindsOfGroup, listed]

/-- The kinds that are cleared have empty records; the others stand. -/
theorem foldl_clear_recs (ks : List AlarmKind) (r : Vector Alarm 21) (j : AlarmKind) :
    (ks.foldl (fun r k => r.set (alarmIx k) { }) r)[alarmIx j] = if j ∈ ks then { } else r[alarmIx j] := by
  induction ks generalizing r with
  | nil => rfl
  | cons k rest ih =>
    rw [List.foldl_cons, ih, set_alarmIx]
    by_cases later : j ∈ rest <;> simp [later]

theorem clearGroup_recs (a : AlarmSet) (g : Fin 4) (k : AlarmKind) :
    (a.clearGroup g).recs[alarmIx k] = if alarmGroupOf k = g then { } else a.recs[alarmIx k] := by
  rw [AlarmSet.clearGroup, foldl_clear_recs]
  simp only [mem_kindsOfGroup]

theorem clearGroup_groups (a : AlarmSet) (g h : Fin 4) :
    (a.clearGroup g).groups[h] = if h = g then false else a.groups[h] := by
  simp only [AlarmSet.clearGroup, Fin.getElem_fin, Vector.getElem_set, Fin.ext_iff, eq_comm (a := g.val)]

theorem ownAlarmRead_outside {group : Nat} (outside : group = 0 ∨ 4 < group) (s : State) :
    ownAlarmRead group s = refuse s .badArgument := dif_neg (by omega)

theorem ownAlarmRead_named (g : Fin 4) (s : State) : ownAlarmRead (g.val + 1) s =
    { state := { s with alarms := s.alarms.clearGroup g }, status := .ok, body := .alarmGroup g (s.alarms.rows g) } :=
  dif_pos (by omega)

/-- Settles O30: SET_DIGEST by the check of its list, ALARM_READ by the group it names. -/
theorem digestsAndAlarms : Obligations.DigestsAndAlarms := by
  intro s n tag group items run good
  have sets {r : Taken} (answer : ownSetDigest n items s = r) :
      exec (.setDigest n tag items) s = .next (r.state.replied n tag .setDigest r.status r.body) :=
    live_take run rfl answer
  have checks : digestOk items = true ↔ good := by
    simp only [digestOk_iff, digestItemOk_iff, good]
  refine ⟨fun bad => sets (if_neg (mt checks.mp bad)), fun ok => sets (if_pos (checks.mpr ok)), fun role => ?_⟩
  have role : permitted .alarmRead (roleOf n) = true := by rw [role]; rfl
  refine ⟨fun outside => live_take run role (ownAlarmRead_outside outside s), fun g named => ?_⟩
  subst named
  exact ⟨_, live_take run role (ownAlarmRead_named g s), clearGroup_recs s.alarms g, clearGroup_groups s.alarms g,
    rfl, rfl⟩

end Sys2Proof.Machine
end

section
namespace Sys2Proof.Machine

/-! ## The queue (log 1) -/

/-- A step takes the command at the front off the queue before it runs it. -/
theorem step_of_pending_cons {s : State} {c : Instr} {rest : List Instr} (front : s.pending = c :: rest) :
    step s = exec c { s with pending := rest } := by
  rw [step, front]

/-- Settles O1: the state's queue is replaced before the step, and the front command sees only the rest of it. -/
theorem stepRunsFrontCommand : Obligations.StepRunsFrontCommand := fun s c rest =>
  step_of_pending_cons (s := { s with pending := c :: rest }) rfl

end Sys2Proof.Machine
end
